-- ==== Sys2Proof/Word.lean ====
section
/-! DEFINITION. The word types of the block (00_scope.md R10, 10_state.md R20) and the status a service
or a command answers with (20_memory.md R61, 30_encoding.md R106). -/

namespace Sys2Proof

abbrev Bit := BitVec 1
abbrev Nibble := BitVec 4
abbrev Byte := BitVec 8

/-- A 7-bit bus address (R27, R61). -/
abbrev BusAddr := BitVec 7

/-- The command word `op[23:16] a[15:8] b[7:0]` (R107). -/
abbrev CmdWord := BitVec 24

/-- The payload lines of the command port (R107). -/
abbrev Payload := BitVec 64

/-- The opaque bus identity `cfg.bus` (R27): a token, never computed with. -/
abbrev BusHandle := Nat

/-- What `bus_transmit` returns (R61) and what a command completes with (R106). -/
inductive Status where
  | ok
  | fail
deriving DecidableEq, Repr, Inhabited

end Sys2Proof
end

