-- ==== Sys2Proof/Syntax.lean ====
section
/-! DEFINITION. The command set (30_encoding.md R110), one constructor per row of the opcode table. -/

namespace Sys2Proof

/-- A command as it stands on the command port. An operand the rule of a command names has that name;
the operands `a`, `b`, `p` are the fields R112 says the command ignores. They stay in the syntax
because acceptance latches the whole word (R30) and records it in the trace (R62): log 14. -/
inductive Instr where
  | init (a b : Byte) (p : Payload)
  | writeByte (byte b : Byte) (p : Payload)
  | clear (a b : Byte) (p : Payload)
  | home (a b : Byte) (p : Payload)
  | setCursor (col row : Byte) (p : Payload)
  | displayOn (a b : Byte) (p : Payload)
  | displayOff (a b : Byte) (p : Payload)
  | cursorOn (a b : Byte) (p : Payload)
  | cursorOff (a b : Byte) (p : Payload)
  | blinkOn (a b : Byte) (p : Payload)
  | blinkOff (a b : Byte) (p : Payload)
  | scrollLeft (a b : Byte) (p : Payload)
  | scrollRight (a b : Byte) (p : Payload)
  | leftToRight (a b : Byte) (p : Payload)
  | rightToLeft (a b : Byte) (p : Payload)
  | autoscrollOn (a b : Byte) (p : Payload)
  | autoscrollOff (a b : Byte) (p : Payload)
  /-- `bitmap` lists the eight rows in row order (R115). -/
  | createChar (location b : Byte) (bitmap : List Byte)
  | backlightOn (a b : Byte) (p : Payload)
  | backlightOff (a b : Byte) (p : Payload)
deriving DecidableEq, Repr

end Sys2Proof
end

