-- ==== Sys2Proof/WellFormed.lean ====
section
/-! DEFINITION. Which terms of `Instr` stand for a command of the port. Every operand value is legal
(30_encoding.md R112: "Operand values are never rejected"), so the one check is the length of a
`CREATE_CHAR` bitmap: "bitmap[8]" (43_addressing_commands.md R234). -/

namespace Sys2Proof

/-- The number of rows of a bitmap (R234). -/
def bitmapRows : Nat := 8

/-- The command can be put on the port. -/
def WellFormed : Instr → Bool
  | .createChar _ _ bitmap => bitmap.length == bitmapRows
  | .init _ _ _ => true
  | .writeByte _ _ _ => true
  | .clear _ _ _ => true
  | .home _ _ _ => true
  | .setCursor _ _ _ => true
  | .displayOn _ _ _ => true
  | .displayOff _ _ _ => true
  | .cursorOn _ _ _ => true
  | .cursorOff _ _ _ => true
  | .blinkOn _ _ _ => true
  | .blinkOff _ _ _ => true
  | .scrollLeft _ _ _ => true
  | .scrollRight _ _ _ => true
  | .leftToRight _ _ _ => true
  | .rightToLeft _ _ _ => true
  | .autoscrollOn _ _ _ => true
  | .autoscrollOff _ _ _ => true
  | .backlightOn _ _ _ => true
  | .backlightOff _ _ _ => true

end Sys2Proof
end

