-- ==== Sys2Proof/Decode.lean ====
section
/-! DEFINITION. Decoding the command word and payload (30_encoding.md R107, R110 to R112), total on
every word, and after it the encoder written from the same table. -/

namespace Sys2Proof

/-- Why a word selects no command. -/
inductive DecodeError where
  /-- "Opcodes 0x00 and 0x15 to 0xFF are reserved" (R111). -/
  | reservedOpcode (op : Byte)
deriving DecidableEq, Repr

/-! ## The fields of the word (R107) -/

def opField (w : CmdWord) : Byte := w.extractLsb' 16 8

def aField (w : CmdWord) : Byte := w.extractLsb' 8 8

def bField (w : CmdWord) : Byte := w.extractLsb' 0 8

/-- The word with these fields. -/
def packWord (op a b : Byte) : CmdWord := op ++ a ++ b

/-- `bitmap[i] = cmd_payload[8*i + 7 : 8*i]` (R107). -/
def bitmapRow (p : Payload) (i : Nat) : Byte := p.extractLsb' (8 * i) 8

/-- The eight rows, row 0 (the least significant byte) first (R107). -/
def unpackBitmap (p : Payload) : List Byte :=
  [bitmapRow p 0, bitmapRow p 1, bitmapRow p 2, bitmapRow p 3,
   bitmapRow p 4, bitmapRow p 5, bitmapRow p 6, bitmapRow p 7]

/-- The payload that holds these rows, row 0 in the least significant byte (R107). -/
def packBitmap (rows : List Byte) : Payload :=
  rows.foldr (fun row acc => (acc <<< 8) ||| row.setWidth 64) 0

/-! ## The decoder (R110, R111) -/

/-- The command a word and its payload select. -/
def decode (w : CmdWord) (p : Payload) : Except DecodeError Instr :=
  let a := aField w
  let b := bField w
  match opField w with
  | 0x01 => .ok (.init a b p)
  | 0x02 => .ok (.writeByte a b p)
  | 0x03 => .ok (.clear a b p)
  | 0x04 => .ok (.home a b p)
  | 0x05 => .ok (.setCursor a b p)
  | 0x06 => .ok (.displayOn a b p)
  | 0x07 => .ok (.displayOff a b p)
  | 0x08 => .ok (.cursorOn a b p)
  | 0x09 => .ok (.cursorOff a b p)
  | 0x0A => .ok (.blinkOn a b p)
  | 0x0B => .ok (.blinkOff a b p)
  | 0x0C => .ok (.scrollLeft a b p)
  | 0x0D => .ok (.scrollRight a b p)
  | 0x0E => .ok (.leftToRight a b p)
  | 0x0F => .ok (.rightToLeft a b p)
  | 0x10 => .ok (.autoscrollOn a b p)
  | 0x11 => .ok (.autoscrollOff a b p)
  | 0x12 => .ok (.createChar a b (unpackBitmap p))
  | 0x13 => .ok (.backlightOn a b p)
  | 0x14 => .ok (.backlightOff a b p)
  | op => .error (.reservedOpcode op)

/-- The decoder on an instruction numbered as the opcode table numbers it: the word in bits 23:0, the
payload (which the table gives no bits) in bits 87:24, every bit from `nbits` on zero. -/
def tableWord (nbits w : Nat) : CmdWord := BitVec.ofNat 24 (w % 2 ^ nbits)

def tablePayload (nbits w : Nat) : Payload := BitVec.ofNat 64 (w % 2 ^ nbits / 2 ^ 24)

def decodeTableWord (nbits w : Nat) : Option Instr :=
  (decode (tableWord nbits w) (tablePayload nbits w)).toOption

/-! ## The encoder (R107, R110) -/

/-- The opcode of a command, the column `op` of R110. -/
def Instr.opcode : Instr → Byte
  | .init _ _ _ => 0x01
  | .writeByte _ _ _ => 0x02
  | .clear _ _ _ => 0x03
  | .home _ _ _ => 0x04
  | .setCursor _ _ _ => 0x05
  | .displayOn _ _ _ => 0x06
  | .displayOff _ _ _ => 0x07
  | .cursorOn _ _ _ => 0x08
  | .cursorOff _ _ _ => 0x09
  | .blinkOn _ _ _ => 0x0A
  | .blinkOff _ _ _ => 0x0B
  | .scrollLeft _ _ _ => 0x0C
  | .scrollRight _ _ _ => 0x0D
  | .leftToRight _ _ _ => 0x0E
  | .rightToLeft _ _ _ => 0x0F
  | .autoscrollOn _ _ _ => 0x10
  | .autoscrollOff _ _ _ => 0x11
  | .createChar _ _ _ => 0x12
  | .backlightOn _ _ _ => 0x13
  | .backlightOff _ _ _ => 0x14

/-- What the command puts in field `a`. -/
def Instr.operandA : Instr → Byte
  | .init a _ _ | .writeByte a _ _ | .clear a _ _ | .home a _ _ | .setCursor a _ _
  | .displayOn a _ _ | .displayOff a _ _ | .cursorOn a _ _ | .cursorOff a _ _
  | .blinkOn a _ _ | .blinkOff a _ _ | .scrollLeft a _ _ | .scrollRight a _ _
  | .leftToRight a _ _ | .rightToLeft a _ _ | .autoscrollOn a _ _ | .autoscrollOff a _ _
  | .createChar a _ _ | .backlightOn a _ _ | .backlightOff a _ _ => a

/-- What the command puts in field `b`. -/
def Instr.operandB : Instr → Byte
  | .init _ b _ | .writeByte _ b _ | .clear _ b _ | .home _ b _ | .setCursor _ b _
  | .displayOn _ b _ | .displayOff _ b _ | .cursorOn _ b _ | .cursorOff _ b _
  | .blinkOn _ b _ | .blinkOff _ b _ | .scrollLeft _ b _ | .scrollRight _ b _
  | .leftToRight _ b _ | .rightToLeft _ b _ | .autoscrollOn _ b _ | .autoscrollOff _ b _
  | .createChar _ b _ | .backlightOn _ b _ | .backlightOff _ b _ => b

/-- What the command puts on the payload lines. -/
def Instr.payload : Instr → Payload
  | .createChar _ _ bitmap => packBitmap bitmap
  | .init _ _ p | .writeByte _ _ p | .clear _ _ p | .home _ _ p | .setCursor _ _ p
  | .displayOn _ _ p | .displayOff _ _ p | .cursorOn _ _ p | .cursorOff _ _ p
  | .blinkOn _ _ p | .blinkOff _ _ p | .scrollLeft _ _ p | .scrollRight _ _ p
  | .leftToRight _ _ p | .rightToLeft _ _ p | .autoscrollOn _ _ p | .autoscrollOff _ _ p
  | .backlightOn _ _ p | .backlightOff _ _ p => p

/-- The word and payload of a command. -/
def encode (i : Instr) : CmdWord × Payload :=
  (packWord i.opcode i.operandA i.operandB, i.payload)

end Sys2Proof
end

