-- ==== Sys2Proof/Config.lean ====
section
/-! DEFINITION. What an implementation fixes and what the environment leaves free: the record of the
controller's instruction constants (30_encoding.md R100), the open parameters of the host-side
operations (00_scope.md R8), and the free values, which have no body. -/

namespace Sys2Proof

/-- The configuration record `K` of named instruction and flag constants (R100). The spec's rules are
written in these names; the default values are `Sys2Proof.Machine.kDefault`. -/
structure InstrConsts where
  clearDisplay : Byte
  returnHome : Byte
  entryModeSet : Byte
  displayControl : Byte
  cursorShift : Byte
  functionSet : Byte
  setCgramAddr : Byte
  setDdramAddr : Byte
  emLeft : Byte
  emShiftInc : Byte
  dcDisplayOn : Byte
  dcCursorOn : Byte
  dcBlinkOn : Byte
  shDisplayMove : Byte
  shMoveRight : Byte
  fn8Bit : Byte
  fn2Line : Byte
  fn5x10 : Byte
deriving DecidableEq, Repr

/-- The open parameters of the host-side operations: `W_INT`, the width of an integer argument of
`PRINTF`, and `FMT_BUF`, the capacity of the formatter's buffer in characters (R8, R263, R269). -/
structure HostParams where
  wInt : Nat
  fmtBuf : Nat
deriving DecidableEq, Repr

/-- FREE VALUE (log 9). The value `ROW_BASE[i]` for `i >= 4` takes at the `n`-th draw: "any value",
"drawn from the environment at each use" (93_implementation_defined.md U2). -/
opaque Config.freeRowBase : Nat → Byte

/-- FREE VALUE (log 8). The status `bus_transmit` answers at the `n`-th draw when nothing scripted
says otherwise: "chosen by the environment" (R62). -/
opaque Config.freeTxStatus : Nat → Status

/-- FREE VALUE (log 8). The answer of `bus_ready` at the `n`-th draw, likewise (R62). -/
opaque Config.freeReady : Nat → Bool

end Sys2Proof
end

