-- ==== Sys2Proof/Machine/Constants.lean ====
section
/-! DEFINITION. The constants of the block with the values of 00_scope.md R8, 30_encoding.md R100,
43_addressing_commands.md R230 and 70_reset_and_hazards.md R330. -/

namespace Sys2Proof.Machine

/-- The default values of `K` (R100): the HD44780 instruction set as commonly published, which the
spec marks as general knowledge (G1, G2). PRESUMED, log 1. -/
def kDefault : InstrConsts where
  clearDisplay := 0x01
  returnHome := 0x02
  entryModeSet := 0x04
  displayControl := 0x08
  cursorShift := 0x10
  functionSet := 0x20
  setCgramAddr := 0x40
  setDdramAddr := 0x80
  emLeft := 0x02
  emShiftInc := 0x01
  dcDisplayOn := 0x04
  dcCursorOn := 0x02
  dcBlinkOn := 0x01
  shDisplayMove := 0x08
  shMoveRight := 0x04
  fn8Bit := 0x10
  fn2Line := 0x08
  fn5x10 := 0x04

/-- `NIB_SELECT8`, the nibble of `INIT` step 5 (R8, R165). -/
def nibSelect8 : Nibble := 0x3

/-- The default of `NIB_COMMIT4`, the nibble of `INIT` step 6 (R8, R166): general knowledge (G3).
PRESUMED, log 2. -/
def nibCommit4Default : Nibble := 0x2

/-- `T_POWER` (R330). -/
def tPower : Nat := 50

/-- `T_RESET` (R330). -/
def tReset : Nat := 500

/-- `T_SEL12` (R330). -/
def tSel12 : Nat := 5

/-- `T_SEL3` (R330). -/
def tSel3 : Nat := 1

/-- `T_SETTLE` (R330). -/
def tSettle : Nat := 2

/-- `T_POLL` (R330). -/
def tPoll : Nat := 1

/-- `BUS_TIMEOUT`, the timeout of every transmit (R61, R330). -/
def busTimeout : Nat := 100

/-- `ROW_BASE` (R230): "It has no entry for an index of 4 or more." -/
def rowBase : List Byte := [0x00, 0x40, 0x14, 0x54]

end Sys2Proof.Machine
end

