-- ==== Sys2Proof/Machine/State.lean ====
section
/-! DEFINITION. The state of the block (10_state.md), the events of its trace (20_memory.md R62), the
inputs one step reads, why a step can stop, and the state after reset (R35, R310). -/

namespace Sys2Proof.Machine

/-- One event of the trace (R62). -/
inductive Event where
  /-- A command was accepted: its word and payload. -/
  | accept (word : CmdWord) (payload : Payload)
  /-- One `bus_transmit`: address, bytes in wire order, timeout, the status answered. -/
  | tx (addr : BusAddr) (bytes : List Byte) (timeout : Nat) (status : Status)
  /-- One `bus_ready`: the bus asked, the answer. -/
  | ready (bus : BusHandle) (answer : Bool)
  /-- One `delay` of `n` time units. -/
  | delay (n : Nat)
  /-- A command completed: its opcode and its status. -/
  | done (opcode : Byte) (status : Status)
deriving DecidableEq, Repr

/-- The configuration registers (R27) with the parameters of the configuration record that the spec
takes from general knowledge (R8, R34). Constant for the life of an instance (R9). -/
structure Cfg where
  /-- `cfg.bus`, an opaque token (log 17). -/
  bus : BusHandle
  /-- `cfg.addr`. -/
  addr : BusAddr
  /-- `cfg.rows`. -/
  rows : Byte
  /-- `cfg.font10`: the taller (10-row) font. -/
  font10 : Bool
  /-- The constants `K` (R100). -/
  k : InstrConsts
  /-- `NIB_COMMIT4` (R166). -/
  nibCommit4 : Nibble
deriving DecidableEq, Repr

/-- The micro-sequencer `seq` (R30). -/
structure Seq where
  busy : Bool
  cmd : Byte
  a : Byte
  b : Byte
  p : Payload
  upc : BitVec 6
deriving DecidableEq, Repr

/-- Answers the environment will give, one at each call: those of `script` first, then `after` for
ever if it is given, else free values (log 7). -/
structure Feed (α : Type) where
  script : List α
  after : Option α
deriving DecidableEq, Repr

/-- How a command other than `INIT` is treated while `init_done = 0`
(93_implementation_defined.md U1; log 10). -/
inductive PreInit where
  /-- The command's rule runs "on the unspecified registers, as the real code would" (U1). -/
  | run
  /-- The model refuses the command (U1, 70_reset_and_hazards.md R320). -/
  | refuse
deriving DecidableEq, Repr

/-- The state of the block, its ports, its trace and its inputs. -/
structure State where
  /-- `backlight_value` (R21). -/
  backlightValue : Bit
  /-- `display_function` (R22). -/
  displayFunction : Byte
  /-- `display_control` (R23). -/
  displayControl : Byte
  /-- `display_mode` (R24). -/
  displayMode : Byte
  /-- `register_image` (R25). -/
  registerImage : Byte
  /-- `init_fail` (R28). -/
  initFail : Bool
  /-- `init_done` (R29). -/
  initDone : Bool
  /-- The micro-sequencer (R30). -/
  seq : Seq
  /-- The configuration straps (R27). -/
  cfg : Cfg
  /-- The port output `done` (R105). -/
  done : Bool
  /-- The port output `done_status` (R106). -/
  doneStatus : Status
  /-- The trace, oldest event first (R32, log 18). -/
  trace : List Event
  /-- INPUT: the words and payloads the host presents, in order (R105, log 11). -/
  port : List (CmdWord × Payload)
  /-- INPUT: the answers of `bus_transmit` (R62, log 7). -/
  tx : Feed Status
  /-- INPUT: the answers of `bus_ready` (R62, log 7). -/
  ready : Feed Bool
  /-- How many free values have been drawn (log 8). -/
  draws : Nat
  /-- The treatment of commands before `INIT` (U1, log 10). -/
  preInit : PreInit
deriving DecidableEq, Repr

/-- The port output `cmd_ready` (R105): the complement of `seq.busy`. -/
def State.cmdReady (s : State) : Bool := !s.seq.busy

/-- Why the machine is stuck. No rule of the spec stops the block (60_exceptions.md R286); both
constructors name a state that no run reaches and for which the spec has no rule (log 15). -/
inductive Fault where
  /-- Raised by `runCommand` when `seq.upc` lies past the end of the micro-program (R141 has rules for
  `upc` below the length and equal to it). Safe. -/
  | upcPastEnd
  /-- Raised by `step` when the block is busy and the latched opcode is reserved (acceptance latches
  only the twenty assigned opcodes, R111). Safe. -/
  | latchedReserved (op : Byte)
deriving DecidableEq, Repr

/-- Why an instruction is given no meaning. -/
inductive Refusal where
  /-- Raised by an arm of `exec` whose instruction has no meaning yet. Safe. -/
  | notModelled (mnemonic : String)
  /-- Raised by `step` when the presented opcode is reserved: "a model refuses the command: it gives it
  no meaning, emits nothing, changes nothing" (R111, U7; log 16). Safe. -/
  | reservedOpcode (op : Byte)
  /-- Raised by `accept` for a command other than `INIT` while `init_done = 0`, when `preInit` is
  `refuse`: "A model refuses any command but `INIT` while `init_done = 0`" (R320, U1; log 10). Safe. -/
  | beforeInit
deriving DecidableEq, Repr

/-- The state right after reset (R35, R310). `seq.busy`, `init_fail`, `init_done` and the trace have
the values R35 states. DESIGN CHOICE: the runtime registers are zero (log 3), `cfg` is that of the
worked example R176 (log 4), the other latches are zero (log 5), `done` is low (log 6), the
environment's answers are free (log 7), nothing is presented (log 11), `preInit` is `run` (log 10). -/
def State.reset : State where
  backlightValue := 0
  displayFunction := 0
  displayControl := 0
  displayMode := 0
  registerImage := 0
  initFail := false
  initDone := false
  seq := { busy := false, cmd := 0, a := 0, b := 0, p := 0, upc := 0 }
  cfg :=
    { bus := 0, addr := 0x27, rows := 2, font10 := false, k := kDefault,
      nibCommit4 := nibCommit4Default }
  done := false
  doneStatus := .ok
  trace := []
  port := []
  tx := { script := [], after := none }
  ready := { script := [], after := none }
  draws := 0
  preInit := .run

end Sys2Proof.Machine
end

