-- ==== Sys2Proof/Machine/Flags.lean ====
section
/-! DEFINITION. Every flag computation of the spec: setting and clearing a bit flag
(42_display_commands.md R193), deriving `display_function` (41_init_sequencer.md R162), the completion
status (60_exceptions.md R283, R284). -/

namespace Sys2Proof.Machine

/-- "Set" means `field <- field | mask` (R193). -/
def setFlag (field mask : Byte) : Byte := field ||| mask

/-- "Clear" means `field <- field & ~mask`, at 8 bits (R193). -/
def clearFlag (field mask : Byte) : Byte := field &&& ~~~mask

/-- `display_function` from the row count and the font flag (R162): the compare with 1 is unsigned, and
the taller font counts only when there is one row. -/
def deriveDisplayFunction (cfg : Cfg) : Byte :=
  (if 1 < cfg.rows then cfg.k.fn2Line else 0)
    ||| (if cfg.font10 ∧ cfg.rows = 1 then cfg.k.fn5x10 else 0)

/-- The code of a status on the `done_status` line: `OK = 0`, `FAIL = 1` (R106). -/
def statusCode : Status → Bit
  | .ok => 0
  | .fail => 1

/-- `INIT` completes with `FAIL` when `init_fail` is 1, else with `OK` (R283). -/
def initStatus (s : State) : Status := if s.initFail then .fail else .ok

end Sys2Proof.Machine
end

