-- ==== Sys2Proof/Machine/Operands.lean ====
section
/-! DEFINITION. Every form in which a byte is assembled: the expander byte and its fields
(30_encoding.md R90, R91), the transmit formats (R92 to R94), the nibble split (R95), instruction
bytes (R96) and the addresses in them (R97, R98; 43_addressing_commands.md R230 to R234). -/

namespace Sys2Proof.Machine

/-! ## The expander byte -/

/-- `compose(data, en, rs, bl) = (data, bl, en, 0, rs)`, most significant first (R130). -/
def compose (data : Nibble) (en rs bl : Bit) : Byte := data ++ bl ++ en ++ 0#1 ++ rs

/-- The fields of an expander byte, named as R90 names them. -/
structure ExpanderFields where
  data : Nibble
  bl : Bit
  en : Bit
  rw : Bit
  rs : Bit
deriving DecidableEq, Repr

/-- Reading the fields back, by the fixed layout (R90). -/
def expanderFields (y : Byte) : ExpanderFields where
  data := y.extractLsb' 4 4
  bl := y.extractLsb' 3 1
  en := y.extractLsb' 2 1
  rw := y.extractLsb' 1 1
  rs := y.extractLsb' 0 1

/-- The image with its backlight sub-field replaced: only bit 3 changes (44_backlight.md R250). -/
def withBacklight (image : Byte) (v : Bit) : Byte := (image &&& 0xF7) ||| (v.setWidth 8 <<< 3)

/-! ## Transmit formats -/

/-- `byte[7:4]` (R95). -/
def highNibble (byte : Byte) : Nibble := byte.extractLsb' 4 4

/-- `byte[3:0]` (R95). -/
def lowNibble (byte : Byte) : Nibble := byte.extractLsb' 0 4

/-- The frame A, B, C, D of a byte (R92, R133): high nibble first, enable high then low. -/
def frame (byte : Byte) (isData bl : Bit) : List Byte :=
  [compose (highNibble byte) 1 isData bl, compose (highNibble byte) 0 isData bl,
   compose (lowNibble byte) 1 isData bl, compose (lowNibble byte) 0 isData bl]

/-- The raw pair of a nibble (R93, R134): enable high then low, register-select 0. -/
def rawPair (nib : Nibble) (bl : Bit) : List Byte := [compose nib 1 0 bl, compose nib 0 0 bl]

/-! ## Addresses in instruction bytes -/

/-- `SET_CURSOR`'s clamp (R231): strict, so that a row equal to `cfg.rows` is not clamped, and
`cfg.rows - 1` wraps modulo 256. -/
def clampRow (rows row : Byte) : Byte := if rows < row then rows - 1 else row

/-- The entry of `ROW_BASE` at a row index, `none` past the end of the table (R230). -/
def rowBaseAt (row : Byte) : Option Byte := rowBase[row.toNat]?

/-- The instruction byte of `SET_CURSOR`: `K.SETDDRAMADDR | ((col + off) mod 256)` (R97, R231). -/
def ddramInstr (k : InstrConsts) (col off : Byte) : Byte := k.setDdramAddr ||| (col + off)

/-- The instruction byte of `CREATE_CHAR`: `K.SETCGRAMADDR | ((location & 7) << 3)` (R98, R234). -/
def cgramInstr (k : InstrConsts) (location : Byte) : Byte :=
  k.setCgramAddr ||| ((location &&& 0x07) <<< 3)

end Sys2Proof.Machine
end

