-- ==== Sys2Proof/Machine/Ops.lean ====
section
/-! DEFINITION. The operations every command is built from: the three consumed services
(20_memory.md R60 to R62), the micro-operations `TX`, `POLL`, `DELAY` (40_transport.md R131, R135,
R136), the recorded failure (60_exceptions.md R282), and the micro-sequencer's accept, step and
complete (R141). -/

namespace Sys2Proof.Machine

/-! ## The trace and the micro-program pointer -/

/-- `emit E` appends the event `E` to the trace (R11). -/
def State.emit (s : State) (e : Event) : State := { s with trace := s.trace ++ [e] }

/-- `upc <- upc + 1` (R30). -/
def State.advance (s : State) : State := { s with seq := { s.seq with upc := s.seq.upc + 1 } }

/-! ## The environment's answers (R62; logs 7, 8) -/

/-- The next answer of a feed; `free` is what it is when nothing scripted says otherwise. -/
def Feed.answer {α : Type} (f : Feed α) (free : α) : α := (f.script.head? <|> f.after).getD free

/-- The feed after one answer. -/
def Feed.rest {α : Type} (f : Feed α) : Feed α := { f with script := f.script.tail }

/-- The next answer is a free value. -/
def Feed.isFree {α : Type} (f : Feed α) : Bool := f.script.isEmpty && f.after.isNone

/-- The status the next `bus_transmit` answers. -/
def txAnswer (s : State) : Status := s.tx.answer (Config.freeTxStatus s.draws)

/-- The inputs after that answer has been given. -/
def afterTxAnswer (s : State) : State :=
  { s with tx := s.tx.rest, draws := if s.tx.isFree then s.draws + 1 else s.draws }

/-- The answer of the next `bus_ready`. -/
def readyAnswer (s : State) : Bool := s.ready.answer (Config.freeReady s.draws)

/-- The inputs after that answer has been given. -/
def afterReadyAnswer (s : State) : State :=
  { s with ready := s.ready.rest, draws := if s.ready.isFree then s.draws + 1 else s.draws }

/-! ## The consumed services (R60, R61, R15) -/

/-- `MemWrite(cfg.addr, len(v), v)`: one `bus_transmit`, one `Tx` event. -/
def memWrite (v : List Byte) (s : State) : State :=
  (afterTxAnswer s).emit (.tx s.cfg.addr v busTimeout (txAnswer s))

/-- `BusReady()`: one `bus_ready`, one `Ready` event. -/
def busReady (s : State) : State :=
  (afterReadyAnswer s).emit (.ready s.cfg.bus (readyAnswer s))

/-- `Delay(n)`: one `delay`, one `Delay` event. -/
def delayService (n : Nat) (s : State) : State := s.emit (.delay n)

/-! ## The recorded failure, where another machine would take an exception (R282, R292) -/

/-- `raise InitFail`: `init_fail <- 1`, "and execution goes on with the next micro-operation". No state
is saved and control goes nowhere (R292), and there is nothing to return from (R293). -/
def raiseInitFail (s : State) : State := { s with initFail := true }

/-! ## The micro-operations -/

/-- What a micro-operation does once its bytes are known. -/
inductive Action where
  /-- `TX(v, rec)` (R131). -/
  | tx (v : List Byte) (record : Bool)
  /-- `POLL` (R135). -/
  | poll
  /-- `DELAY(n)` (R136). -/
  | delay (n : Nat)
deriving DecidableEq, Repr

/-- The register image after each byte of a transmit list in order has been written to it (R131). -/
def imageAfter (image : Byte) (v : List Byte) : Byte := v.foldl (fun _ y => y) image

/-- `TX(v, rec)` (R131): the image takes the bytes whether or not the transmit succeeds, and a failure
is recorded only when `rec`. -/
def transmit (v : List Byte) (record : Bool) (s : State) : State :=
  let t := memWrite v { s with registerImage := imageAfter s.registerImage v }
  (if record ∧ txAnswer s = .fail then raiseInitFail t else t).advance

/-- One execution of `POLL` (R135): answered true it moves on; answered false it delays by `T_POLL` and
leaves `upc`, so that it runs again. The loop has no bound (R285). -/
def poll (s : State) : State :=
  if readyAnswer s then (busReady s).advance else delayService tPoll (busReady s)

/-- `DELAY(n)` (R136). -/
def delay (n : Nat) (s : State) : State := (delayService n s).advance

/-- Executing an action. -/
def perform : Action → State → State
  | .tx v record, s => transmit v record s
  | .poll, s => poll s
  | .delay n, s => delay n s

/-- One entry of a micro-program: the register updates that stand before the micro-operation and happen
in the same step (R141, D29), and the micro-operation, whose bytes are composed from the registers as
those updates leave them. -/
abbrev MicroOp := State → State × Action

/-- Executing an entry. -/
def runMicroOp (m : MicroOp) (s : State) : State := perform (m s).2 (m s).1

/-! ## Entries of micro-programs -/

/-- An entry with no register update. -/
def plain (act : State → Action) : MicroOp := fun s => (s, act s)

/-- `DELAY(n)` as an entry. -/
def delayOp (n : Nat) : MicroOp := plain fun _ => .delay n

/-- `POLL` as an entry. -/
def pollOp : MicroOp := plain fun _ => .poll

/-- `write_raw(byte)` (R132): one `TX` of one byte, its status dropped, no `POLL`. -/
def writeRaw (byte : State → Byte) : MicroOp := plain fun s => .tx [byte s] false

/-- `raw_pair(nib, rec)` (R134), with the backlight as it stands when the bytes are composed. -/
def rawPairOp (nib : State → Nibble) (record : Bool) : MicroOp :=
  plain fun s => .tx (rawPair (nib s) s.backlightValue) record

/-- The `TX` of `send(byte, is_data)` (R133), its status dropped. -/
def frameOp (byte : State → Byte) (isData : Bit) : MicroOp :=
  plain fun s => .tx (frame (byte s) isData s.backlightValue) false

/-- The register update `u` before the entry `m`, in the same step (R141, D29). -/
def updThen (u : State → State) (m : MicroOp) : MicroOp := fun s => m (u s)

/-- `send(byte, is_data)` (R133): two entries. -/
def send (byte : State → Byte) (isData : Bit) : List MicroOp := [frameOp byte isData, pollOp]

/-- `send` after a register update (R141, D29). -/
def updThenSend (u : State → State) (byte : State → Byte) (isData : Bit) : List MicroOp :=
  [updThen u (frameOp byte isData), pollOp]

/-! ## Register updates of the commands (R11: `x[name] <- v`) -/

/-- `x[display_control] <- v`. -/
def setDisplayControl (v : Byte) (s : State) : State := { s with displayControl := v }

/-- `x[display_mode] <- v`. -/
def setDisplayMode (v : Byte) (s : State) : State := { s with displayMode := v }

/-! ## The micro-sequencer (R141) -/

/-- A command: its micro-program, the register update of its completion and the status it completes
with (R106, R142). -/
structure Command where
  instr : Instr
  program : List MicroOp
  atEnd : State → State
  status : State → Status

/-- A command that completes with `OK` whatever the bus answered and updates nothing at its end
(R284). -/
def okCommand (i : Instr) (program : List MicroOp) : Command where
  instr := i
  program := program
  atEnd := id
  status := fun _ => .ok

/-- *Accept* (R141a, R105): `seq.busy <- 1`, the word and payload latched, `upc <- 0`, `Accept`
appended. -/
def latch (i : Instr) (s : State) : State :=
  ({ s with seq :=
      { busy := true, cmd := i.opcode, a := i.operandA, b := i.operandB, p := i.payload,
        upc := 0 } }).emit (.accept (encode i).1 (encode i).2)

/-- The command is subject to U1: it is not `INIT`. -/
def needsInit (i : Instr) : Bool := i.opcode != 0x01

/-- Acceptance with the treatment of U1: while `init_done = 0` and `preInit` is `refuse`, any command
but `INIT` is refused (R320). -/
def accept (i : Instr) (s : State) : Host.Outcome State Fault Refusal :=
  if needsInit i ∧ s.initDone = false ∧ s.preInit = .refuse then .refused .beforeInit
  else .next (latch i s)

/-- *Complete* (R141c, R106): the update of the end, `seq.busy <- 0`, `done` raised with `done_status`,
`Done` appended. -/
def complete (c : Command) (s : State) : State :=
  let t := c.atEnd s
  ({ t with seq := { t.seq with busy := false }, done := true, doneStatus := c.status s }).emit
    (.done c.instr.opcode (c.status s))

/-- The next move of the block when `c` is the command it is presented with or executing (R141): accept
when idle, the micro-operation at `upc` while `upc` is below the length, complete at the length. -/
def runCommand (c : Command) (s : State) : Host.Outcome State Fault Refusal :=
  if s.seq.busy then
    match c.program[s.seq.upc.toNat]? with
    | some m => .next (runMicroOp m s)
    | none => if s.seq.upc.toNat = c.program.length then .next (complete c s) else .fault .upcPastEnd
  else accept c.instr s

/-! ## Fetching (R105) -/

/-- `done` is raised "for one step" (R106): the next step begins by lowering it (log 6). -/
def lowerDone (s : State) : State := { s with done := false }

/-- The port after its first command has been taken (R105). -/
def popPort (s : State) : State := { s with port := s.port.tail }

/-- What the block finds to run. -/
inductive Fetch where
  /-- Idle, and nothing is presented (`cmd_valid = 0`). -/
  | nothing
  /-- A command, and the state from which it makes its move. -/
  | command (i : Instr) (s : State)
  /-- Idle, and the presented opcode is reserved. -/
  | reserved (op : Byte)
  /-- Busy, and the latched opcode is reserved. -/
  | badLatch (op : Byte)
deriving DecidableEq, Repr

/-- The latched command while busy; the presented one, taken from the port, while idle (R105). -/
def fetch (s : State) : Fetch :=
  if s.seq.busy then
    match decode (packWord s.seq.cmd s.seq.a s.seq.b) s.seq.p with
    | .ok i => .command i s
    | .error (.reservedOpcode op) => .badLatch op
  else
    match s.port with
    | [] => .nothing
    | (w, p) :: _ =>
      match decode w p with
      | .ok i => .command i (popPort s)
      | .error (.reservedOpcode op) => .reserved op

/-! ## Loss of power (R300, R310; log 23) -/

/-- The state after a reset at any moment: everything the block holds is lost, the straps and the
world outside stay. -/
def State.powerCycle (s : State) : State :=
  { State.reset with
    cfg := s.cfg, port := s.port, tx := s.tx, ready := s.ready, draws := s.draws,
    preInit := s.preInit }

end Sys2Proof.Machine
end

