-- ==== Sys2Proof/Machine/Addressing.lean ====
section
/-! DEFINITION. The commands that place an address in a controller instruction: `SET_CURSOR` and
`CREATE_CHAR` (43_addressing_commands.md). -/

namespace Sys2Proof.Machine

/-- The row offset of `SET_CURSOR` and the state after it has been looked up (R231): the entry of
`ROW_BASE` at the clamped row or, past the end of the table, "any 8-bit value", drawn anew at each use
(U2, log 9). -/
def rowOffset (row : Byte) (s : State) : Byte × State :=
  match rowBaseAt (clampRow s.cfg.rows row) with
  | some off => (off, s)
  | none => (Config.freeRowBase s.draws, { s with draws := s.draws + 1 })

/-- The `TX` of `SET_CURSOR`: the row first, the column added after (R231, R291). -/
def setCursorOp (col row : Byte) : MicroOp := fun s =>
  let off := rowOffset row s
  (off.2, .tx (frame (ddramInstr s.cfg.k col off.1) 0 s.backlightValue) false)

/-- `SET_CURSOR` (R231). -/
def execSetCursor (col row : Byte) (p : Payload) (s : State) : Host.Outcome State Fault Refusal :=
  runCommand (okCommand (.setCursor col row p) [setCursorOp col row, pollOp]) s

/-- The data writes of a bitmap, row 0 first, each row whole (R234). -/
def bitmapProgram (bitmap : List Byte) : List MicroOp :=
  bitmap.flatMap fun row => send (fun _ => row) 1

/-- `CREATE_CHAR` (R234): the CGRAM address set, then the rows. -/
def execCreateChar (location b : Byte) (bitmap : List Byte) (s : State) :
    Host.Outcome State Fault Refusal :=
  runCommand (okCommand (.createChar location b bitmap)
    (send (fun s => cgramInstr s.cfg.k location) 0 ++ bitmapProgram bitmap)) s

end Sys2Proof.Machine
end

