-- ==== Sys2Proof/Machine/Backlight.lean ====
section
/-! DEFINITION. The backlight commands (44_backlight.md). -/

namespace Sys2Proof.Machine

/-- The register updates of `set_backlight(v)`: `backlight_value` and the backlight sub-field of
`register_image` together (R250). -/
def setBacklight (v : Bit) (s : State) : State :=
  { s with backlightValue := v, registerImage := withBacklight s.registerImage v }

/-- The one micro-operation of `set_backlight(v)`: the whole updated image as a raw byte (R250). -/
def backlightProgram (v : Bit) : List MicroOp :=
  [updThen (setBacklight v) (writeRaw fun s => s.registerImage)]

/-- `BACKLIGHT_ON` (R251). -/
def execBacklightOn (a b : Byte) (p : Payload) (s : State) : Host.Outcome State Fault Refusal :=
  runCommand (okCommand (.backlightOn a b p) (backlightProgram 1)) s

/-- `BACKLIGHT_OFF` (R252). -/
def execBacklightOff (a b : Byte) (p : Payload) (s : State) : Host.Outcome State Fault Refusal :=
  runCommand (okCommand (.backlightOff a b p) (backlightProgram 0)) s

end Sys2Proof.Machine
end

