-- ==== Sys2Proof/Machine/Display.lean ====
section
/-! DEFINITION. The commands of 42_display_commands.md: character write, clear, home, the six
display-control commands, the two shift commands and the four entry-mode commands. -/

namespace Sys2Proof.Machine

/-! ## The shared shapes -/

/-- One `send` and the settle delay (R191, R192): the shape of `CLEAR` and `HOME`. -/
def sendThenSettle (byte : State → Byte) : List MicroOp := send byte 0 ++ [delayOp tSettle]

/-- The micro-program of `CLEAR` (R191), which `INIT` runs too (R170). -/
def clearProgram : List MicroOp := sendThenSettle fun s => s.cfg.k.clearDisplay

/-- The micro-program of `HOME` (R192), which `INIT` runs too (R172). -/
def homeProgram : List MicroOp := sendThenSettle fun s => s.cfg.k.returnHome

/-- The display-control instruction with the register as it stands (R102). -/
def displayControlInstr (s : State) : Byte := s.cfg.k.displayControl ||| s.displayControl

/-- The entry-mode instruction with the register as it stands (R102). -/
def entryModeInstr (s : State) : Byte := s.cfg.k.entryModeSet ||| s.displayMode

/-- A display-control command (R193): the register is updated, then sent whole. -/
def displayControlProgram (f : State → Byte) : List MicroOp :=
  updThenSend (fun s => setDisplayControl (f s) s) displayControlInstr 0

/-- An entry-mode command (R193): the register is updated, then sent whole. -/
def entryModeProgram (f : State → Byte) : List MicroOp :=
  updThenSend (fun s => setDisplayMode (f s) s) entryModeInstr 0

/-! ## Character write, clear and home -/

/-- `WRITE_BYTE` (R190): every value is sent as it is. -/
def execWriteByte (byte b : Byte) (p : Payload) (s : State) : Host.Outcome State Fault Refusal :=
  runCommand (okCommand (.writeByte byte b p) (send (fun _ => byte) 1)) s

/-- `CLEAR` (R191). -/
def execClear (a b : Byte) (p : Payload) (s : State) : Host.Outcome State Fault Refusal :=
  runCommand (okCommand (.clear a b p) clearProgram) s

/-- `HOME` (R192). -/
def execHome (a b : Byte) (p : Payload) (s : State) : Host.Outcome State Fault Refusal :=
  runCommand (okCommand (.home a b p) homeProgram) s

/-! ## Display control -/

/-- `DISPLAY_ON` (R194). -/
def execDisplayOn (a b : Byte) (p : Payload) (s : State) : Host.Outcome State Fault Refusal :=
  runCommand (okCommand (.displayOn a b p)
    (displayControlProgram fun s => setFlag s.displayControl s.cfg.k.dcDisplayOn)) s

/-- `DISPLAY_OFF` (R195). -/
def execDisplayOff (a b : Byte) (p : Payload) (s : State) : Host.Outcome State Fault Refusal :=
  runCommand (okCommand (.displayOff a b p)
    (displayControlProgram fun s => clearFlag s.displayControl s.cfg.k.dcDisplayOn)) s

/-- `CURSOR_ON` (R196). -/
def execCursorOn (a b : Byte) (p : Payload) (s : State) : Host.Outcome State Fault Refusal :=
  runCommand (okCommand (.cursorOn a b p)
    (displayControlProgram fun s => setFlag s.displayControl s.cfg.k.dcCursorOn)) s

/-- `CURSOR_OFF` (R197). -/
def execCursorOff (a b : Byte) (p : Payload) (s : State) : Host.Outcome State Fault Refusal :=
  runCommand (okCommand (.cursorOff a b p)
    (displayControlProgram fun s => clearFlag s.displayControl s.cfg.k.dcCursorOn)) s

/-- `BLINK_ON` (R198). -/
def execBlinkOn (a b : Byte) (p : Payload) (s : State) : Host.Outcome State Fault Refusal :=
  runCommand (okCommand (.blinkOn a b p)
    (displayControlProgram fun s => setFlag s.displayControl s.cfg.k.dcBlinkOn)) s

/-- `BLINK_OFF` (R199). -/
def execBlinkOff (a b : Byte) (p : Payload) (s : State) : Host.Outcome State Fault Refusal :=
  runCommand (okCommand (.blinkOff a b p)
    (displayControlProgram fun s => clearFlag s.displayControl s.cfg.k.dcBlinkOn)) s

/-! ## Display shift -/

/-- `SCROLL_LEFT` (R200): a constant instruction, no mode register. -/
def execScrollLeft (a b : Byte) (p : Payload) (s : State) : Host.Outcome State Fault Refusal :=
  runCommand (okCommand (.scrollLeft a b p)
    (send (fun s => s.cfg.k.cursorShift ||| s.cfg.k.shDisplayMove) 0)) s

/-- `SCROLL_RIGHT` (R201). -/
def execScrollRight (a b : Byte) (p : Payload) (s : State) : Host.Outcome State Fault Refusal :=
  runCommand (okCommand (.scrollRight a b p)
    (send (fun s => s.cfg.k.cursorShift ||| s.cfg.k.shDisplayMove ||| s.cfg.k.shMoveRight) 0)) s

/-! ## Entry mode -/

/-- `LEFT_TO_RIGHT` (R202). -/
def execLeftToRight (a b : Byte) (p : Payload) (s : State) : Host.Outcome State Fault Refusal :=
  runCommand (okCommand (.leftToRight a b p)
    (entryModeProgram fun s => setFlag s.displayMode s.cfg.k.emLeft)) s

/-- `RIGHT_TO_LEFT` (R203). -/
def execRightToLeft (a b : Byte) (p : Payload) (s : State) : Host.Outcome State Fault Refusal :=
  runCommand (okCommand (.rightToLeft a b p)
    (entryModeProgram fun s => clearFlag s.displayMode s.cfg.k.emLeft)) s

/-- `AUTOSCROLL_ON` (R204). -/
def execAutoscrollOn (a b : Byte) (p : Payload) (s : State) : Host.Outcome State Fault Refusal :=
  runCommand (okCommand (.autoscrollOn a b p)
    (entryModeProgram fun s => setFlag s.displayMode s.cfg.k.emShiftInc)) s

/-- `AUTOSCROLL_OFF` (R205). -/
def execAutoscrollOff (a b : Byte) (p : Payload) (s : State) : Host.Outcome State Fault Refusal :=
  runCommand (okCommand (.autoscrollOff a b p)
    (entryModeProgram fun s => clearFlag s.displayMode s.cfg.k.emShiftInc)) s

end Sys2Proof.Machine
end

