-- ==== Sys2Proof/Machine/Init.lean ====
section
/-! DEFINITION. The initialization sequencer, the one command `INIT` (41_init_sequencer.md). -/

namespace Sys2Proof.Machine

/-- Step 1: every runtime register and the recorded failure are zeroed (R161) and `display_function` is
derived (R162). `init_done` is not cleared. -/
def initStep1 (s : State) : State :=
  { s with
    backlightValue := 0, displayFunction := deriveDisplayFunction s.cfg, displayControl := 0,
    displayMode := 0, registerImage := 0, initFail := false }

/-- The select pair of step 5, its failure recorded (R165). -/
def selectPair : MicroOp := rawPairOp (fun _ => nibSelect8) true

/-- Steps 1 to 6: `upc` 0 to 10 (R160, R163 to R166). -/
def initRawProgram : List MicroOp :=
  [updThen initStep1 (delayOp tPower),
   writeRaw fun _ => 0x00,
   delayOp tReset,
   selectPair,
   delayOp tSel12,
   selectPair,
   delayOp tSel12,
   selectPair,
   delayOp tSel3,
   rawPairOp (fun s => s.cfg.nibCommit4) true,
   pollOp]

/-- Step 7: `upc` 11 to 22, five `send`s (R167): function set (R168), display on with cursor and blink
off (R169), clear (R170), entry mode left to right (R171), home with its delay (R172). -/
def initSendProgram : List MicroOp :=
  send (fun s => s.cfg.k.functionSet ||| s.displayFunction) 0
    ++ updThenSend (fun s => setDisplayControl s.cfg.k.dcDisplayOn s) displayControlInstr 0
    ++ clearProgram
    ++ updThenSend (fun s => setDisplayMode s.cfg.k.emLeft s) entryModeInstr 0
    ++ homeProgram

/-- The 23 micro-operations of `INIT` (R160). -/
def initProgram : List MicroOp := initRawProgram ++ initSendProgram

/-- `INIT` (R160): at its end `init_done <- 1`, whatever the status, and the status is that of the
recorded failure (R173, R283). -/
def execInit (a b : Byte) (p : Payload) (s : State) : Host.Outcome State Fault Refusal :=
  runCommand
    { instr := .init a b p, program := initProgram, atEnd := fun s => { s with initDone := true },
      status := initStatus } s

end Sys2Proof.Machine
end

