-- ==== Sys2Proof/Machine/Dispatch.lean ====
section
/-! DEFINITION. One arm per command. -/

namespace Sys2Proof.Machine

def exec (i : Instr) (s : State) : Host.Outcome State Fault Refusal :=
  match i with
  | .init a b p => Sys2Proof.Machine.execInit a b p s
  | .writeByte byte b p => Sys2Proof.Machine.execWriteByte byte b p s
  | .clear a b p => Sys2Proof.Machine.execClear a b p s
  | .home a b p => Sys2Proof.Machine.execHome a b p s
  | .setCursor col row p => Sys2Proof.Machine.execSetCursor col row p s
  | .displayOn a b p => Sys2Proof.Machine.execDisplayOn a b p s
  | .displayOff a b p => Sys2Proof.Machine.execDisplayOff a b p s
  | .cursorOn a b p => Sys2Proof.Machine.execCursorOn a b p s
  | .cursorOff a b p => Sys2Proof.Machine.execCursorOff a b p s
  | .blinkOn a b p => Sys2Proof.Machine.execBlinkOn a b p s
  | .blinkOff a b p => Sys2Proof.Machine.execBlinkOff a b p s
  | .scrollLeft a b p => Sys2Proof.Machine.execScrollLeft a b p s
  | .scrollRight a b p => Sys2Proof.Machine.execScrollRight a b p s
  | .leftToRight a b p => Sys2Proof.Machine.execLeftToRight a b p s
  | .rightToLeft a b p => Sys2Proof.Machine.execRightToLeft a b p s
  | .autoscrollOn a b p => Sys2Proof.Machine.execAutoscrollOn a b p s
  | .autoscrollOff a b p => Sys2Proof.Machine.execAutoscrollOff a b p s
  | .createChar location b bitmap => Sys2Proof.Machine.execCreateChar location b bitmap s
  | .backlightOn a b p => Sys2Proof.Machine.execBacklightOn a b p s
  | .backlightOff a b p => Sys2Proof.Machine.execBacklightOff a b p s

end Sys2Proof.Machine
end

