-- ==== Sys2Proof/Machine/Step.lean ====
section
/-! DEFINITION. One step: the next move of the block (40_transport.md R141), and the word the next step
fetches. -/

namespace Sys2Proof.Machine

/-- One step (R141). `done`, raised for one step (R106), is lowered first; then the command the block is
executing or presented with makes its next move. Idle with nothing presented, nothing else happens. -/
def step (s : State) : Host.Outcome State Fault Refusal :=
  match fetch (lowerDone s) with
  | .nothing => .next (lowerDone s)
  | .command i t => exec i t
  | .reserved op => .refused (.reservedOpcode op)
  | .badLatch op => .fault (.latchedReserved op)

/-- The state in which the host presents this instruction next and the block is ready for it
(log 11). -/
def State.withFetchWord (s : State) (nbits w : Nat) : State :=
  { s with
    port := (tableWord nbits w, tablePayload nbits w) :: s.port
    seq := { s.seq with busy := false } }

end Sys2Proof.Machine
end

