-- ==== Sys2Proof/Machine/HostMacros.lean ====
section
/-! DEFINITION. The host-side pseudo-operations (45_host_macros.md): software above the block that
expands to `WRITE_BYTE` commands. They hold no state of the block (R272). What the spec refuses (U5,
U11) is an error here (log 22). -/

namespace Sys2Proof.Machine

/-- Why a pseudo-operation is refused. -/
inductive HostRefusal where
  /-- A base outside 8, 10, 16 (R269, U5). -/
  | badBase
  /-- More digits than `FMT_BUF` characters (R269, U5). -/
  | bufferOverflow
  /-- A `%` that is the last character (R268, U5). -/
  | trailingPercent
  /-- A specifier with no argument left (R268, U5). -/
  | missingArgument
  /-- `%d` of the most negative `W_INT`-bit integer (R263, U11). -/
  | mostNegative
  /-- An argument that is no string where one is read, or the reverse: no rule of the spec (log 22). -/
  | wrongArgument
deriving DecidableEq, Repr

/-- `emit_char(c)` stands for the command `WRITE_BYTE c`; its ignored fields are zero (log 22). -/
def emitChar (c : Byte) : Instr := .writeByte c 0 0

/-- The string terminator, code 0 (G5). PRESUMED, log 22. -/
def terminator : Byte := 0

/-- `PRINT_STRING s` (R260): each character up to the terminator, which is not sent. -/
def printString (s : List Byte) : List Instr := (s.takeWhile fun c => c != terminator).map emitChar

/-! ## The numeral formatter (R269) -/

/-- The character of a digit: `'0' + d` up to 9, else `'A' + (d - 10)`. -/
def digitChar (d : Nat) : Byte :=
  if d ≤ 9 then BitVec.ofNat 8 (0x30 + d) else BitVec.ofNat 8 (0x41 + (d - 10))

/-- The digits of a value, most significant first, none for 0, in a buffer of `room` characters. -/
def digits (base : Nat) : Nat → Nat → Option (List Byte)
  | _, 0 => some []
  | 0, _ + 1 => none
  | room + 1, value + 1 =>
    (digits base room ((value + 1) / base)).map fun ds => ds ++ [digitChar ((value + 1) % base)]

/-- `format(value, base)` in a buffer of `fmtBuf` characters (R269). -/
def format (fmtBuf value base : Nat) : Except HostRefusal (List Byte) :=
  if base = 8 ∨ base = 10 ∨ base = 16 then
    if value = 0 then (if 1 ≤ fmtBuf then .ok [digitChar 0] else .error .bufferOverflow)
    else
      match digits base fmtBuf value with
      | some ds => .ok ds
      | none => .error .bufferOverflow
  else .error .badBase

/-- The value of a digit character, the inverse of `digitChar` (R270: "parsing the produced string"). -/
def digitValue (c : Byte) : Nat := if c.toNat ≤ 0x39 then c.toNat - 0x30 else c.toNat - 0x41 + 10

/-- The value a string of digits has in a base (R270). -/
def parse (base : Nat) (ds : List Byte) : Nat := ds.foldl (fun n c => n * base + digitValue c) 0

/-! ## printf_like (R261 to R268) -/

/-- An argument: the bits of an integer, or a string. -/
inductive Arg where
  | int (raw : Nat)
  | str (s : List Byte)
deriving DecidableEq, Repr

/-- The unsigned reading of a `W_INT`-bit argument. -/
def unsignedArg (hp : HostParams) (raw : Nat) : Nat := raw % 2 ^ hp.wInt

/-- The signed reading, two's complement (log 22). -/
def signedArg (hp : HostParams) (raw : Nat) : Int := (BitVec.ofNat hp.wInt raw).toInt

/-- The characters of `format`, emitted in order. -/
def emitFormatted (hp : HostParams) (value base : Nat) : Except HostRefusal (List Instr) :=
  (format hp.fmtBuf value base).map fun ds => ds.map emitChar

/-- `%c` (R262). -/
def convertChar (raw : Nat) : List Instr := [emitChar (BitVec.ofNat 8 raw)]

/-- `%d` (R263): a minus sign for a negative value, then the digits of the absolute value. -/
def convertDecimal (hp : HostParams) (raw : Nat) : Except HostRefusal (List Instr) :=
  let v := signedArg hp raw
  if v < 0 then
    if v = -(2 ^ (hp.wInt - 1) : Nat) then .error .mostNegative
    else (emitFormatted hp v.natAbs 10).map fun out => emitChar 0x2D :: out
  else emitFormatted hp v.natAbs 10

/-- What a specifier does with an integer argument; `none` for a specifier that takes no integer. -/
def convertInt (hp : HostParams) (spec : Byte) (raw : Nat) :
    Option (Except HostRefusal (List Instr)) :=
  if spec = 0x63 then some (.ok (convertChar raw))
  else if spec = 0x64 then some (convertDecimal hp raw)
  else if spec = 0x6F then some (emitFormatted hp (unsignedArg hp raw) 8)
  else if spec = 0x78 then some (emitFormatted hp (unsignedArg hp raw) 16)
  else none

/-- The specifiers of R262 to R266: `c`, `d`, `o`, `x`, `s`. -/
def isSpecifier (spec : Byte) : Bool :=
  spec == 0x63 || spec == 0x64 || spec == 0x6F || spec == 0x78 || spec == 0x73

/-- `convert(spec)` (R262 to R267): the commands emitted and the arguments left. An unknown specifier
emits nothing and consumes no argument (R267). -/
def convert (hp : HostParams) (spec : Byte) (args : List Arg) :
    Except HostRefusal (List Instr × List Arg) :=
  if isSpecifier spec then
    match args with
    | [] => .error .missingArgument
    | .str s :: rest => if spec = 0x73 then .ok (printString s, rest) else .error .wrongArgument
    | .int raw :: rest =>
      match convertInt hp spec raw with
      | some out => out.map fun cs => (cs, rest)
      | none => .error .wrongArgument
  else .ok ([], args)

/-- `'%'`. -/
def percent : Byte := 0x25

/-- `PRINTF fmt, args` (R261): literal runs verbatim, `%` and the one character after it a
conversion. -/
def printf (hp : HostParams) : List Byte → List Arg → Except HostRefusal (List Instr)
  | [], _ => .ok []
  | [c], _ => if c = percent then .error .trailingPercent else .ok [emitChar c]
  | c :: d :: rest, args =>
    if c = percent then
      match convert hp d args with
      | .ok (out, left) => (printf hp rest left).map fun more => out ++ more
      | .error e => .error e
    else (printf hp (d :: rest) args).map fun more => emitChar c :: more

end Sys2Proof.Machine
end

