-- ==== Sys2Proof/Machine/Observe.lean ====
section
/-! DEFINITION. What an observer of the trace sees on the wire: the transmit lists, the expander's
output latch as far as the trace determines it (10_state.md R33a, 20_memory.md R63a), and the nibbles
on which the controller sees EN fall (R71, R133). Nothing here is state of the block, and no model of the
controller's inside is given (00_scope.md R7c; log 20). -/

namespace Sys2Proof.Machine

/-- The byte lists handed to `bus_transmit`, in order. -/
def txLists (trace : List Event) : List (List Byte) :=
  trace.filterMap fun e => match e with
    | .tx _ v _ _ => some v
    | .accept _ _ => none
    | .ready _ _ => none
    | .delay _ => none
    | .done _ _ => none

/-- What is known of the expander's output latch. -/
inductive Latch where
  | unknown
  | holds (y : Byte)
deriving DecidableEq, Repr

/-- A delivered list leaves its last byte (R63a: "successive bytes of one `MemWrite` overwrite it one
after another"); after a failed transmit what reached the expander is unknown (R61, U14). -/
def Latch.after (l : Latch) : Event → Latch
  | .tx _ v _ .ok => (v.getLast?.map Latch.holds).getD l
  | .tx _ _ _ .fail => .unknown
  | .accept _ _ => l
  | .ready _ _ => l
  | .delay _ => l
  | .done _ _ => l

/-- The latch after a whole trace; before the first transmit it is unknown (R311). -/
def expanderLatch (trace : List Event) : Latch := trace.foldl Latch.after .unknown

/-- The nibbles the controller latches while these bytes appear on the expander's lines, each with its
register-select bit: one for each falling edge of EN (R71). `en` is the EN line before the first. -/
def latchedNibbles (en : Bit) : List Byte → List (Nibble × Bit)
  | [] => []
  | y :: ys =>
    let f := expanderFields y
    (if en = 1 ∧ f.en = 0 then [(f.data, f.rs)] else []) ++ latchedNibbles f.en ys

/-- The byte and register-select a frame carries: "the sent byte is recovered as A[7:4], C[7:4]"
(R137). -/
def sentByte : List Byte → Option (Byte × Bit)
  | [a, _, c, _] =>
    some ((expanderFields a).data ++ (expanderFields c).data, (expanderFields a).rs)
  | _ => none

end Sys2Proof.Machine
end

