-- ==== Sys2Proof/Safety.lean ====
section
/-! DEFINITION. What claims are stated in terms of: runs, the lengths of the micro-programs
(40_transport.md R142), the order an observer of the trace can rely on (20_memory.md R75 to R77), and the
invariant of the block. -/

namespace Sys2Proof.Machine

/-- `n` steps of the machine. -/
abbrev runSteps (n : Nat) (s : State) : Host.Outcome State Fault Refusal :=
  Host.Core.run Sys2Proof.core n s

/-! ## The shape of the micro-programs (R142, R160) -/

/-- The length of a command's micro-program (R142). -/
def programLength : Instr → Nat
  | .init _ _ _ => 23
  | .clear _ _ _ | .home _ _ _ => 3
  | .createChar _ _ _ => 18
  | .backlightOn _ _ _ | .backlightOff _ _ _ => 1
  | .writeByte _ _ _ | .setCursor _ _ _ | .displayOn _ _ _ | .displayOff _ _ _ | .cursorOn _ _ _
  | .cursorOff _ _ _ | .blinkOn _ _ _ | .blinkOff _ _ _ | .scrollLeft _ _ _ | .scrollRight _ _ _
  | .leftToRight _ _ _ | .rightToLeft _ _ _ | .autoscrollOn _ _ _ | .autoscrollOff _ _ _ => 2

/-- Where a micro-program has the `POLL` that ends a `send` (R142, R160). -/
def sendPolls : Instr → List Nat
  | .init _ _ _ => [12, 14, 16, 19, 21]
  | .createChar _ _ _ => [1, 3, 5, 7, 9, 11, 13, 15, 17]
  | .backlightOn _ _ _ | .backlightOff _ _ _ => []
  | .clear _ _ _ | .home _ _ _
  | .writeByte _ _ _ | .setCursor _ _ _ | .displayOn _ _ _ | .displayOff _ _ _ | .cursorOn _ _ _
  | .cursorOff _ _ _ | .blinkOn _ _ _ | .blinkOff _ _ _ | .scrollLeft _ _ _ | .scrollRight _ _ _
  | .leftToRight _ _ _ | .rightToLeft _ _ _ | .autoscrollOn _ _ _ | .autoscrollOff _ _ _ => [1]

/-- Where a micro-program has a `POLL`: after each `send`, and after the commit pair of `INIT` (R77,
R160). -/
def pollsAt (i : Instr) : List Nat :=
  match i with
  | .init _ _ _ => 10 :: sendPolls i
  | .createChar _ _ _ | .backlightOn _ _ _ | .backlightOff _ _ _ | .clear _ _ _ | .home _ _ _
  | .writeByte _ _ _ | .setCursor _ _ _ | .displayOn _ _ _ | .displayOff _ _ _ | .cursorOn _ _ _
  | .cursorOff _ _ _ | .blinkOn _ _ _ | .blinkOff _ _ _ | .scrollLeft _ _ _ | .scrollRight _ _ _
  | .leftToRight _ _ _ | .rightToLeft _ _ _ | .autoscrollOn _ _ _ | .autoscrollOff _ _ _ =>
    sendPolls i

/-- The latched command, if the latches hold one (R30). -/
def latchedInstr (s : State) : Option Instr :=
  (decode (packWord s.seq.cmd s.seq.a s.seq.b) s.seq.p).toOption

/-- The block is executing the command `i`. -/
def Executing (i : Instr) (s : State) : Prop := s.seq.busy = true ∧ latchedInstr s = some i

/-! ## What a command does, move by move -/

/-- The state in which a command has completed (R106): the port is open, `done` is high with the status,
`Done` is appended. -/
def completed (op : Byte) (status : Status) (s : State) : State :=
  { s with
    seq := { s.seq with busy := false }
    done := true
    doneStatus := status
    trace := s.trace ++ [.done op status] }

/-- While the block is busy, `exec i` ANSWERS THE NEXT STATE `ts[k]` when `upc` is `k`: `ts` lists, in
order, the state each micro-operation of the command leads to from `s`, and last the state its completion
leads to. -/
def Moves (i : Instr) (s : State) (ts : List State) : Prop :=
  s.seq.busy = true → ∀ k t, ts[k]? = some t → s.seq.upc.toNat = k → exec i s = .next t

/-- The two moves of a `send` of one byte (R133): the frame, its status dropped, and the `POLL`. `u` is
the state with the register updates that precede the `TX` in its step. -/
def sendMoves (byte : Byte) (isData : Bit) (u s : State) : List State :=
  [transmit (frame byte isData u.backlightValue) false u, poll s]

/-- The events of one `POLL` answered false `k` times, then true (R135). -/
def pollEvents (bus : BusHandle) (k : Nat) : List Event :=
  (List.replicate k [.ready bus false, .delay 1]).flatten ++ [.ready bus true]

/-- Those answers. -/
def pollAnswers (k : Nat) : List Bool := List.replicate k false ++ [true]

/-- The events of one `send` of an instruction byte with the backlight off (R133). -/
def sendEvents (cfg : Cfg) (byte : Byte) (status : Status) (k : Nat) : List Event :=
  .tx cfg.addr (frame byte 0 0) 100 status :: pollEvents cfg.bus k

/-- The events of the micro-program of `INIT` (R160, R176), when its ten transmits are answered
`st 0` to `st 9` and its six `POLL`s are answered false `k 0` to `k 5` times. -/
def initEvents (cfg : Cfg) (st : Nat → Status) (k : Nat → Nat) : List Event :=
  [.delay 50,
   .tx cfg.addr [0x00] 100 (st 0),
   .delay 500,
   .tx cfg.addr [0x34, 0x30] 100 (st 1),
   .delay 5,
   .tx cfg.addr [0x34, 0x30] 100 (st 2),
   .delay 5,
   .tx cfg.addr [0x34, 0x30] 100 (st 3),
   .delay 1,
   .tx cfg.addr (rawPair cfg.nibCommit4 0) 100 (st 4)]
    ++ pollEvents cfg.bus (k 0)
    ++ sendEvents cfg (cfg.k.functionSet ||| deriveDisplayFunction cfg) (st 5) (k 1)
    ++ sendEvents cfg (cfg.k.displayControl ||| cfg.k.dcDisplayOn) (st 6) (k 2)
    ++ sendEvents cfg cfg.k.clearDisplay (st 7) (k 3)
    ++ [.delay 2]
    ++ sendEvents cfg (cfg.k.entryModeSet ||| cfg.k.emLeft) (st 8) (k 4)
    ++ sendEvents cfg cfg.k.returnHome (st 9) (k 5)
    ++ [.delay 2]

/-! ## The order of events -/

/-- What an observer of the trace has seen last: no command open, a command open, or a frame sent whose
bus-ready wait has not ended. -/
inductive Phase where
  | idle
  | running
  | waiting
deriving DecidableEq, Repr

/-- The events allowed in each phase: `Accept` opens a command and `Done` closes it (R62, R141); after
the 4-byte transmit of a `send` no event but polls and their delays comes until `bus_ready` has answered
true (R77). `none` where the order is broken. -/
def Phase.next : Phase → Event → Option Phase
  | .idle, .accept _ _ => some .running
  | .idle, .tx _ _ _ _ => none
  | .idle, .ready _ _ => none
  | .idle, .delay _ => none
  | .idle, .done _ _ => none
  | .running, .accept _ _ => none
  | .running, .tx _ v _ _ => some (if v.length = 4 then .waiting else .running)
  | .running, .ready _ _ => some .running
  | .running, .delay _ => some .running
  | .running, .done _ _ => some .idle
  | .waiting, .accept _ _ => none
  | .waiting, .tx _ _ _ _ => none
  | .waiting, .ready _ answer => some (if answer then .running else .waiting)
  | .waiting, .delay n => if n = tPoll then some .waiting else none
  | .waiting, .done _ _ => none

/-- The phase after a whole trace; `none` if the order is broken somewhere in it. -/
def phaseOf (trace : List Event) : Option Phase := trace.foldlM Phase.next .idle

/-- The phase the sequencer's state stands for. -/
def seqPhase (s : State) : Phase :=
  if s.seq.busy then
    match latchedInstr s with
    | some i => if s.seq.upc.toNat ∈ sendPolls i then .waiting else .running
    | none => .running
  else .idle

/-! ## The invariant -/

/-- A transmit event as the block makes it: to `cfg.addr` with the fixed timeout (R61), 1, 2 or 4 bytes
(R69), bit 1 of every byte 0 (R113). -/
def LegalEvent (cfg : Cfg) : Event → Prop
  | .tx addr v timeout _ =>
    addr = cfg.addr ∧ timeout = busTimeout ∧ (v.length = 1 ∨ v.length = 2 ∨ v.length = 4) ∧
      ∀ y ∈ v, (expanderFields y).rw = 0
  | .ready bus _ => bus = cfg.bus
  | .accept _ _ => True
  | .delay _ => True
  | .done _ _ => True

/-- The invariant of the block. -/
structure Inv (s : State) : Prop where
  /-- While busy the latches hold a command and `upc` is at most its length (R30). -/
  seqLegal : s.seq.busy = true →
    ∃ i, latchedInstr s = some i ∧ s.seq.upc.toNat ≤ programLength i
  /-- Only the three display-control flags are ever set (R23). -/
  controlBits : s.displayControl &&&
    ~~~(s.cfg.k.dcDisplayOn ||| s.cfg.k.dcCursorOn ||| s.cfg.k.dcBlinkOn) = 0
  /-- Only the two entry-mode flags are ever set (R24). -/
  modeBits : s.displayMode &&& ~~~(s.cfg.k.emLeft ||| s.cfg.k.emShiftInc) = 0
  /-- Only the line-count and font flags are ever set (R22, R162). -/
  functionBits : s.displayFunction &&& ~~~(s.cfg.k.fn2Line ||| s.cfg.k.fn5x10) = 0
  /-- The R/W sub-field of the image is held low (R25, R113). -/
  rwLow : (expanderFields s.registerImage).rw = 0
  /-- The backlight sub-field of the image equals `backlight_value` (R26). -/
  backlightMirrored : (expanderFields s.registerImage).bl = s.backlightValue
  /-- Within `INIT`, after its step 1, the backlight is off (R93, R161). -/
  darkDuringInit : s.seq.busy = true → s.seq.cmd = 0x01 → s.seq.upc ≠ 0 → s.backlightValue = 0
  /-- Every event of the trace is one the block makes. -/
  eventsLegal : ∀ e ∈ s.trace, LegalEvent s.cfg e
  /-- The trace keeps the order of R75 to R77 and R141, and stands where the sequencer stands. -/
  orderKept : phaseOf s.trace = some (seqPhase s)

end Sys2Proof.Machine
end

