-- ==== Sys2Proof/Certificates/Slice0/Obligations.lean ====
section
/-! DEFINITION. The statements about the model, from the numbered rules of spec/. Each docstring names the
rule it formalises; "log n" is notes/assumptions/n.md. -/

open Sys2Proof Sys2Proof.Machine

/-! ## Encoding -/

/-- Every command that can be put on the port, with every operand the word and payload admit, decodes to
itself (R107, R110, R112). -/
def Obligations.EncodedCommandDecodesToItself : Prop :=
  ∀ i : Instr, WellFormed i = true → decode (encode i).1 (encode i).2 = .ok i

/-- Every word and payload the decoder accepts is the encoding of the well-formed command it reads: no
bit is dropped (R107, R110). -/
def Obligations.DecodedWordEncodesBack : Prop :=
  ∀ w p i, decode w p = .ok i → WellFormed i = true ∧ encode i = (w, p)

/-- The command table (R110): each row's opcode selects its command, whatever the other bits of the
word, and the selection is `word & 0xFF0000 = match`. -/
def Obligations.CommandTableSelects : Prop :=
  (∀ (a b : Byte) (p : Payload),
    decode (packWord 0x01 a b) p = .ok (.init a b p) ∧
    decode (packWord 0x02 a b) p = .ok (.writeByte a b p) ∧
    decode (packWord 0x03 a b) p = .ok (.clear a b p) ∧
    decode (packWord 0x04 a b) p = .ok (.home a b p) ∧
    decode (packWord 0x05 a b) p = .ok (.setCursor a b p) ∧
    decode (packWord 0x06 a b) p = .ok (.displayOn a b p) ∧
    decode (packWord 0x07 a b) p = .ok (.displayOff a b p) ∧
    decode (packWord 0x08 a b) p = .ok (.cursorOn a b p) ∧
    decode (packWord 0x09 a b) p = .ok (.cursorOff a b p) ∧
    decode (packWord 0x0A a b) p = .ok (.blinkOn a b p) ∧
    decode (packWord 0x0B a b) p = .ok (.blinkOff a b p) ∧
    decode (packWord 0x0C a b) p = .ok (.scrollLeft a b p) ∧
    decode (packWord 0x0D a b) p = .ok (.scrollRight a b p) ∧
    decode (packWord 0x0E a b) p = .ok (.leftToRight a b p) ∧
    decode (packWord 0x0F a b) p = .ok (.rightToLeft a b p) ∧
    decode (packWord 0x10 a b) p = .ok (.autoscrollOn a b p) ∧
    decode (packWord 0x11 a b) p = .ok (.autoscrollOff a b p) ∧
    (∃ bitmap, decode (packWord 0x12 a b) p = .ok (.createChar a b bitmap) ∧
      bitmap.length = 8 ∧ ∀ i < 8, bitmap[i]? = some (p.extractLsb' (8 * i) 8)) ∧
    decode (packWord 0x13 a b) p = .ok (.backlightOn a b p) ∧
    decode (packWord 0x14 a b) p = .ok (.backlightOff a b p)) ∧
  ∀ (w : CmdWord) (op : Byte),
    w &&& 0xFF0000 = packWord op 0 0 ↔ ∃ a b, w = packWord op a b

/-- Words of the spec's decoding table (95_test_vectors.md 2.12) and what they decode to. -/
def Obligations.DecodedWordsOfTheSpec : Prop :=
  (∀ p : Payload,
    decode 0x010000 p = .ok (.init 0x00 0x00 p) ∧
    decode 0x01FFFF p = .ok (.init 0xFF 0xFF p) ∧
    decode 0x024800 p = .ok (.writeByte 0x48 0x00 p) ∧
    decode 0x0248AB p = .ok (.writeByte 0x48 0xAB p) ∧
    decode 0x050002 p = .ok (.setCursor 0 2 p) ∧
    decode 0x140000 p = .ok (.backlightOff 0x00 0x00 p) ∧
    decode 0x000000 p = .error (.reservedOpcode 0x00) ∧
    decode 0x150000 p = .error (.reservedOpcode 0x15) ∧
    decode 0xFF0000 p = .error (.reservedOpcode 0xFF)) ∧
  decode 0x120900 0x0000040E1F1F0A00 =
    .ok (.createChar 9 0x00 [0x00, 0x0A, 0x1F, 0x1F, 0x0E, 0x04, 0x00, 0x00])

/-- Reserved opcodes (R111): the decoder returns "illegal" and the model refuses the command, with no
next state. -/
def Obligations.ReservedOpcodesRefused : Prop :=
  ∀ (s : State) (w : CmdWord) (p : Payload) (rest : List (CmdWord × Payload)),
    (opField w = 0x00 ∨ 0x15 ≤ opField w) →
    decode w p = .error (.reservedOpcode (opField w)) ∧
    (s.seq.busy = false → s.port = (w, p) :: rest →
      step s = .refused (.reservedOpcode (opField w)))

/-- Operand fields a command does not use have no effect on what it does, and for the assigned opcodes
every word is legal (R112). -/
def Obligations.UnusedFieldsAreIgnored : Prop :=
  (∀ w p, 0x01 ≤ opField w → opField w ≤ 0x14 → ∃ i, decode w p = .ok i) ∧
  ∀ (x y a b a' b' : Byte) (p p' : Payload) (bitmap : List Byte) (s : State), s.seq.busy = true →
    exec (.init a b p) s = exec (.init a' b' p') s ∧
    exec (.writeByte x b p) s = exec (.writeByte x b' p') s ∧
    exec (.clear a b p) s = exec (.clear a' b' p') s ∧
    exec (.home a b p) s = exec (.home a' b' p') s ∧
    exec (.setCursor x y p) s = exec (.setCursor x y p') s ∧
    exec (.displayOn a b p) s = exec (.displayOn a' b' p') s ∧
    exec (.displayOff a b p) s = exec (.displayOff a' b' p') s ∧
    exec (.cursorOn a b p) s = exec (.cursorOn a' b' p') s ∧
    exec (.cursorOff a b p) s = exec (.cursorOff a' b' p') s ∧
    exec (.blinkOn a b p) s = exec (.blinkOn a' b' p') s ∧
    exec (.blinkOff a b p) s = exec (.blinkOff a' b' p') s ∧
    exec (.scrollLeft a b p) s = exec (.scrollLeft a' b' p') s ∧
    exec (.scrollRight a b p) s = exec (.scrollRight a' b' p') s ∧
    exec (.leftToRight a b p) s = exec (.leftToRight a' b' p') s ∧
    exec (.rightToLeft a b p) s = exec (.rightToLeft a' b' p') s ∧
    exec (.autoscrollOn a b p) s = exec (.autoscrollOn a' b' p') s ∧
    exec (.autoscrollOff a b p) s = exec (.autoscrollOff a' b' p') s ∧
    exec (.createChar x b bitmap) s = exec (.createChar x b' bitmap) s ∧
    exec (.backlightOn a b p) s = exec (.backlightOn a' b' p') s ∧
    exec (.backlightOff a b p) s = exec (.backlightOff a' b' p') s

/-! ## One step -/

/-- A step runs the decoded command: the latched one while busy, the presented one while idle (R105, R141).
Around `exec` the step does two things that are the model's: it begins by lowering `done`, a reading of "for
one step" (R106; log 6), and it takes the presented command from the head of the port, a list (log 11). -/
def Obligations.StepRunsDecodedCommand : Prop :=
  (∀ (s : State) (i : Instr), s.seq.busy = true →
    decode (packWord s.seq.cmd s.seq.a s.seq.b) s.seq.p = .ok i →
    step s = exec i { s with done := false }) ∧
  ∀ (s : State) (w : CmdWord) (p : Payload) (rest : List (CmdWord × Payload)) (i : Instr),
    s.seq.busy = false → s.port = (w, p) :: rest → decode w p = .ok i →
    step s = exec i { s with done := false, port := rest }

/-- The ready/valid handshake of the command port (R105, R30, R62): `cmd_ready` is the complement of
`seq.busy`; a command presented while ready is accepted, which latches its word and payload; while busy
nothing is accepted and the host waits; with nothing presented nothing happens. The model's own in it: `done`
is lowered by the next step, a reading of R106 (log 6); what is presented is the head of a list, and the empty
list is `cmd_valid = 0` (log 11); `preInit` may refuse a command before `INIT`, which the hypothesis excludes
(log 10). -/
def Obligations.CommandPortHandshake : Prop :=
  (∀ s : State, s.cmdReady = !s.seq.busy) ∧
  (∀ (s : State) (w : CmdWord) (p : Payload) (rest : List (CmdWord × Payload)) (i : Instr),
    s.cmdReady = true → s.port = (w, p) :: rest → decode w p = .ok i →
    (i.opcode = 0x01 ∨ s.initDone = true ∨ s.preInit = .run) →
    step s = .next
      { s with
        done := false
        port := rest
        seq :=
          { busy := true, cmd := opField w, a := aField w, b := bField w, p := p, upc := 0 }
        trace := s.trace ++ [.accept w p] }) ∧
  (∀ s : State, s.cmdReady = true → s.port = [] → step s = .next { s with done := false }) ∧
  ∀ s t : State, s.cmdReady = false → step s = .next t →
    t.port = s.port ∧ t.seq.cmd = s.seq.cmd ∧ t.seq.a = s.seq.a ∧ t.seq.b = s.seq.b ∧
      t.seq.p = s.seq.p

/-- When `preInit` is `refuse`, any command but `INIT` is refused while `init_done = 0`, and `INIT` is
accepted (R320, R29; that `preInit` chooses between the two treatments U1 allows is log 10). -/
def Obligations.StrictModelRefusesBeforeInit : Prop :=
  ∀ (s : State) (w : CmdWord) (p : Payload) (rest : List (CmdWord × Payload)) (i : Instr),
    s.preInit = .refuse → s.initDone = false → s.seq.busy = false →
    s.port = (w, p) :: rest → decode w p = .ok i →
    (i.opcode ≠ 0x01 → step s = .refused .beforeInit) ∧
    (i.opcode = 0x01 → ∃ t, step s = .next t ∧ t.seq.busy = true)

/-- From a state that meets the invariant the block never stops by itself: a step answers a next state,
or the presented command is refused, because its opcode is reserved or because `preInit` refuses it before
`INIT` (R286, R111; log 10). -/
def Obligations.OnlyPresentedCommandsAreRefused : Prop :=
  ∀ s : State, Inv s →
    (∃ t, step s = .next t) ∨
    (s.seq.busy = false ∧ ∃ w p rest, s.port = (w, p) :: rest ∧
      (((opField w = 0x00 ∨ 0x15 ≤ opField w) ∧
          step s = .refused (.reservedOpcode (opField w))) ∨
        (s.preInit = .refuse ∧ s.initDone = false ∧ opField w ≠ 0x01 ∧
          step s = .refused .beforeInit)))

/-- `upc` past the end of the micro-program is stuck (log 15): no rule of R141 covers it, and by the
invariant no run reaches it. -/
def Obligations.PastTheEndIsStuck : Prop :=
  ∀ (i : Instr) (s : State), WellFormed i = true → s.seq.busy = true →
    programLength i < s.seq.upc.toNat → exec i s = .fault .upcPastEnd

/-! ## The expander byte and the transmit formats -/

/-- `compose` (R130). -/
def Obligations.ComposeLaysOutTheByte : Prop :=
  (∀ (data : Nibble) (en rs bl : Bit),
    compose data en rs bl =
      (data.setWidth 8 <<< 4) ||| (bl.setWidth 8 <<< 3) ||| (en.setWidth 8 <<< 2) |||
        rs.setWidth 8 ∧
    expanderFields (compose data en rs bl) =
      { data := data, bl := bl, en := en, rw := 0, rs := rs }) ∧
  compose 0 0 0 0 = 0x00 ∧ compose 0xF 1 1 1 = 0xFD ∧ compose 0x4 1 1 0 = 0x45

/-- The frame of a byte (R137): `send` emits exactly one `Tx`, of four bytes; the nibbles, the enable
pulses, the control bits identical across all four and equal to the call-time state, and the byte
recovered. -/
def Obligations.FrameIsTwoEnablePulses : Prop :=
  ∀ (byte : Byte) (isData : Bit) (s : State), ∃ tx a b c d,
    send (fun _ => byte) isData = [tx, pollOp] ∧
    (runMicroOp tx s).trace = s.trace ++ [.tx s.cfg.addr [a, b, c, d] 100 (txAnswer s)] ∧
    txLists (runMicroOp pollOp s).trace = txLists s.trace ∧
    a.extractLsb' 4 4 = byte.extractLsb' 4 4 ∧ b.extractLsb' 4 4 = byte.extractLsb' 4 4 ∧
    c.extractLsb' 4 4 = byte.extractLsb' 0 4 ∧ d.extractLsb' 4 4 = byte.extractLsb' 0 4 ∧
    a.getLsbD 2 = true ∧ c.getLsbD 2 = true ∧ b.getLsbD 2 = false ∧ d.getLsbD 2 = false ∧
    (∀ y ∈ [a, b, c, d], y.extractLsb' 0 1 = isData ∧ y.extractLsb' 3 1 = s.backlightValue ∧
      y.getLsbD 1 = false) ∧
    b = a &&& 0xFB ∧ d = c &&& 0xFB ∧
    byte = a.extractLsb' 4 4 ++ c.extractLsb' 4 4

/-- What the controller latches (R65, R71, R133, R134, R250): from a frame the high nibble then the low
nibble with the register-select of the call; from a raw pair its nibble as an instruction; from a
backlight write over an image whose enable bit is 0, nothing. -/
def Obligations.ControllerLatchesWhatIsSent : Prop :=
  (∀ (en : Bit) (byte : Byte) (isData bl : Bit),
    latchedNibbles en (frame byte isData bl) =
      [(byte.extractLsb' 4 4, isData), (byte.extractLsb' 0 4, isData)] ∧
    sentByte (frame byte isData bl) = some (byte, isData)) ∧
  (∀ (en : Bit) (nib : Nibble) (bl : Bit), latchedNibbles en (rawPair nib bl) = [(nib, 0)]) ∧
  ∀ (image : Byte) (v : Bit), (expanderFields image).en = 0 →
    latchedNibbles (expanderFields image).en [withBacklight image v] = []

/-! ## The micro-operations -/

/-- `TX(v, rec)` (R131): the image takes the bytes in order and ends at the last, whatever the status; one
`Tx` event; a failure is recorded only when `rec`; `upc` moves on; everything else but the input that gave
the status is unchanged. -/
def Obligations.TransmitMicroOperation : Prop :=
  ∀ (v : List Byte) (y : Byte) (record : Bool) (s : State),
    transmit (v ++ [y]) record s =
      { afterTxAnswer s with
        registerImage := y
        initFail := s.initFail || (record && decide (txAnswer s = .fail))
        seq := { s.seq with upc := s.seq.upc + 1 }
        trace := s.trace ++ [.tx s.cfg.addr (v ++ [y]) 100 (txAnswer s)] }

/-- `POLL` (R135): answered true, one `Ready` event and `upc` moves on; answered false, `Ready` and
`Delay(1)` and `upc` stays. -/
def Obligations.PollMicroOperation : Prop :=
  ∀ s : State,
    (readyAnswer s = true → poll s =
      { afterReadyAnswer s with
        seq := { s.seq with upc := s.seq.upc + 1 }
        trace := s.trace ++ [.ready s.cfg.bus true] }) ∧
    (readyAnswer s = false → poll s =
      { afterReadyAnswer s with
        trace := s.trace ++ [.ready s.cfg.bus false, .delay 1] })

/-- `DELAY(n)` (R136): one `Delay` event with the stated number, and `upc` moves on. -/
def Obligations.DelayMicroOperation : Prop :=
  ∀ (n : Nat) (s : State), delay n s =
    { s with
      seq := { s.seq with upc := s.seq.upc + 1 }
      trace := s.trace ++ [.delay n] }

/-- The answers of the services (R62, log 7): the script in order, then the constant for ever, else a
value nothing constrains; giving one changes the feed it came from and, for a free value, the draw
counter, and nothing else. -/
def Obligations.ServiceAnswersComeFromTheFeeds : Prop :=
  ∀ s : State,
    (∀ st rest, s.tx.script = st :: rest →
      txAnswer s = st ∧ afterTxAnswer s = { s with tx := { s.tx with script := rest } }) ∧
    (∀ st, s.tx.script = [] → s.tx.after = some st → txAnswer s = st ∧ afterTxAnswer s = s) ∧
    (s.tx.script = [] → s.tx.after = none →
      txAnswer s = Config.freeTxStatus s.draws ∧
        afterTxAnswer s = { s with draws := s.draws + 1 }) ∧
    (∀ r rest, s.ready.script = r :: rest →
      readyAnswer s = r ∧
        afterReadyAnswer s = { s with ready := { s.ready with script := rest } }) ∧
    (∀ r, s.ready.script = [] → s.ready.after = some r →
      readyAnswer s = r ∧ afterReadyAnswer s = s) ∧
    (s.ready.script = [] → s.ready.after = none →
      readyAnswer s = Config.freeReady s.draws ∧
        afterReadyAnswer s = { s with draws := s.draws + 1 })

/-! ## The commands, move by move

`Moves i s ts` says that `exec i s` answers the next state `ts[k]` when `upc` is `k`: the whole effect of
each micro-operation and of the completion, and so the frame too, since each state is `s` with exactly the
updates named (`transmit`, `poll` and `delay` by the statements above). -/

/-- Every well-formed command is accepted by an idle block that may accept it: busy, latched, `upc` 0, one
`Accept` event, all else unchanged (R141a, R30). -/
def Obligations.IdleBlockAcceptsEveryCommand : Prop :=
  ∀ (i : Instr) (s : State), WellFormed i = true → s.seq.busy = false →
    (i.opcode = 0x01 ∨ s.initDone = true ∨ s.preInit = .run) →
    exec i s = .next
      { s with
        seq :=
          { busy := true, cmd := i.opcode, a := i.operandA, b := i.operandB, p := i.payload,
            upc := 0 }
        trace := s.trace ++ [.accept (encode i).1 (encode i).2] }

/-- `WRITE_BYTE` (R190). -/
def Obligations.WriteByteSendsItsByte : Prop :=
  ∀ (byte b : Byte) (p : Payload) (s : State),
    Moves (.writeByte byte b p) s (sendMoves byte 1 s s ++ [completed 0x02 .ok s])

/-- `CLEAR` (R191) and `HOME` (R192). -/
def Obligations.ClearAndHomeSendAndSettle : Prop :=
  ∀ (a b : Byte) (p : Payload) (s : State),
    Moves (.clear a b p) s
      (sendMoves s.cfg.k.clearDisplay 0 s s ++ [delay 2 s, completed 0x03 .ok s]) ∧
    Moves (.home a b p) s
      (sendMoves s.cfg.k.returnHome 0 s s ++ [delay 2 s, completed 0x04 .ok s])

/-- The six display-control commands (R194 to R199): the register is updated in the step of the `TX` and
before it, then sent whole. -/
def Obligations.DisplayControlCommandsSendTheRegister : Prop :=
  ∀ (a b : Byte) (p : Payload) (s : State),
    let moves := fun (v op : Byte) =>
      sendMoves (s.cfg.k.displayControl ||| v) 0 { s with displayControl := v } s ++
        [completed op .ok s]
    Moves (.displayOn a b p) s (moves (s.displayControl ||| s.cfg.k.dcDisplayOn) 0x06) ∧
    Moves (.displayOff a b p) s (moves (s.displayControl &&& ~~~s.cfg.k.dcDisplayOn) 0x07) ∧
    Moves (.cursorOn a b p) s (moves (s.displayControl ||| s.cfg.k.dcCursorOn) 0x08) ∧
    Moves (.cursorOff a b p) s (moves (s.displayControl &&& ~~~s.cfg.k.dcCursorOn) 0x09) ∧
    Moves (.blinkOn a b p) s (moves (s.displayControl ||| s.cfg.k.dcBlinkOn) 0x0A) ∧
    Moves (.blinkOff a b p) s (moves (s.displayControl &&& ~~~s.cfg.k.dcBlinkOn) 0x0B)

/-- The two shift commands (R200, R201). -/
def Obligations.ScrollCommandsSendAConstant : Prop :=
  ∀ (a b : Byte) (p : Payload) (s : State),
    Moves (.scrollLeft a b p) s
      (sendMoves (s.cfg.k.cursorShift ||| s.cfg.k.shDisplayMove) 0 s s ++
        [completed 0x0C .ok s]) ∧
    Moves (.scrollRight a b p) s
      (sendMoves (s.cfg.k.cursorShift ||| s.cfg.k.shDisplayMove ||| s.cfg.k.shMoveRight) 0 s s ++
        [completed 0x0D .ok s])

/-- The four entry-mode commands (R202 to R205). -/
def Obligations.EntryModeCommandsSendTheRegister : Prop :=
  ∀ (a b : Byte) (p : Payload) (s : State),
    let moves := fun (v op : Byte) =>
      sendMoves (s.cfg.k.entryModeSet ||| v) 0 { s with displayMode := v } s ++
        [completed op .ok s]
    Moves (.leftToRight a b p) s (moves (s.displayMode ||| s.cfg.k.emLeft) 0x0E) ∧
    Moves (.rightToLeft a b p) s (moves (s.displayMode &&& ~~~s.cfg.k.emLeft) 0x0F) ∧
    Moves (.autoscrollOn a b p) s (moves (s.displayMode ||| s.cfg.k.emShiftInc) 0x10) ∧
    Moves (.autoscrollOff a b p) s (moves (s.displayMode &&& ~~~s.cfg.k.emShiftInc) 0x11)

/-- `SET_CURSOR` (R231), for every column, row and `cfg.rows`: the strict clamp, the table, and past the
table a value nothing constrains, drawn at this use (log 9). -/
def Obligations.SetCursorSendsTheAddress : Prop :=
  ∀ (col row : Byte) (p : Payload) (s : State),
    let r := if s.cfg.rows < row then s.cfg.rows - 1 else row
    let moves := fun (off : Byte) (u : State) =>
      sendMoves (s.cfg.k.setDdramAddr ||| (col + off)) 0 u s ++ [completed 0x05 .ok s]
    (r = 0 → Moves (.setCursor col row p) s (moves 0x00 s)) ∧
    (r = 1 → Moves (.setCursor col row p) s (moves 0x40 s)) ∧
    (r = 2 → Moves (.setCursor col row p) s (moves 0x14 s)) ∧
    (r = 3 → Moves (.setCursor col row p) s (moves 0x54 s)) ∧
    (3 < r → Moves (.setCursor col row p) s
      (moves (Config.freeRowBase s.draws) { s with draws := s.draws + 1 }))

/-- The boundary table of `SET_CURSOR` (R232): the clamped row and its offset for every `cfg.rows` and row,
`none` where the table says UNSPECIFIED. -/
def Obligations.SetCursorBoundaryTable : Prop :=
  ∀ rows row : Byte,
    let r := clampRow rows row
    let off := rowBaseAt r
    (rows = 1 →
      (row = 0 → r = 0 ∧ off = some 0x00) ∧ (row = 1 → r = 1 ∧ off = some 0x40) ∧
      (2 ≤ row → r = 0 ∧ off = some 0x00)) ∧
    (rows = 2 →
      (row = 0 → r = 0 ∧ off = some 0x00) ∧ (row = 1 → r = 1 ∧ off = some 0x40) ∧
      (row = 2 → r = 2 ∧ off = some 0x14) ∧ (3 ≤ row → r = 1 ∧ off = some 0x40)) ∧
    (rows = 3 →
      (row = 0 → r = 0 ∧ off = some 0x00) ∧ (row = 1 → r = 1 ∧ off = some 0x40) ∧
      (row = 2 → r = 2 ∧ off = some 0x14) ∧ (row = 3 → r = 3 ∧ off = some 0x54) ∧
      (4 ≤ row → r = 2 ∧ off = some 0x14)) ∧
    (rows = 4 →
      (row = 0 → r = 0 ∧ off = some 0x00) ∧ (row = 1 → r = 1 ∧ off = some 0x40) ∧
      (row = 2 → r = 2 ∧ off = some 0x14) ∧ (row = 3 → r = 3 ∧ off = some 0x54) ∧
      (row = 4 → r = 4 ∧ off = none) ∧ (5 ≤ row → r = 3 ∧ off = some 0x54)) ∧
    (rows = 0 → (row = 0 → r = 0 ∧ off = some 0x00) ∧ (1 ≤ row → r = 255 ∧ off = none)) ∧
    (5 ≤ rows →
      (4 ≤ row → row ≤ rows → r = row ∧ off = none) ∧
      (rows < row → r = rows - 1 ∧ off = none))

/-- `CREATE_CHAR` (R234): the CGRAM address set with the location masked to 3 bits, then the eight rows in
order, whole. -/
def Obligations.CreateCharSendsTheGlyph : Prop :=
  ∀ (location b r0 r1 r2 r3 r4 r5 r6 r7 : Byte) (s : State),
    Moves (.createChar location b [r0, r1, r2, r3, r4, r5, r6, r7]) s
      (sendMoves (s.cfg.k.setCgramAddr ||| ((location &&& 0x07) <<< 3)) 0 s s ++
        sendMoves r0 1 s s ++ sendMoves r1 1 s s ++ sendMoves r2 1 s s ++ sendMoves r3 1 s s ++
        sendMoves r4 1 s s ++ sendMoves r5 1 s s ++ sendMoves r6 1 s s ++ sendMoves r7 1 s s ++
        [completed 0x12 .ok s])

/-- `BACKLIGHT_ON` and `BACKLIGHT_OFF` (R250 to R252): `backlight_value` and bit 3 of the image together,
then the whole image as one raw byte, and no `POLL`. -/
def Obligations.BacklightCommandsSendTheImage : Prop :=
  ∀ (a b : Byte) (p : Payload) (s : State),
    let moves := fun (v : Bit) (image op : Byte) =>
      [transmit [image] false { s with backlightValue := v, registerImage := image },
       completed op .ok s]
    Moves (.backlightOn a b p) s (moves 1 (s.registerImage ||| 0x08) 0x13) ∧
    Moves (.backlightOff a b p) s (moves 0 (s.registerImage &&& 0xF7) 0x14)

/-- `INIT` (R160 to R172): its 23 micro-operations and its completion. -/
def Obligations.InitRunsItsMicroProgram : Prop :=
  ∀ (a b : Byte) (p : Payload) (s : State),
    let k := s.cfg.k
    let on := { s with displayControl := k.dcDisplayOn }
    let left := { s with displayMode := k.emLeft }
    let select := transmit [compose 0x3 1 0 s.backlightValue, compose 0x3 0 0 s.backlightValue] true s
    let zeroed :=
      { s with
        backlightValue := 0
        displayFunction :=
          (if 1 < s.cfg.rows then k.fn2Line else 0) |||
            (if s.cfg.font10 = true ∧ s.cfg.rows = 1 then k.fn5x10 else 0)
        displayControl := 0, displayMode := 0, registerImage := 0, initFail := false }
    Moves (.init a b p) s
      ([delay 50 zeroed,
        transmit [0x00] false s,
        delay 500 s,
        select, delay 5 s, select, delay 5 s, select, delay 1 s,
        transmit
          [compose s.cfg.nibCommit4 1 0 s.backlightValue,
           compose s.cfg.nibCommit4 0 0 s.backlightValue] true s,
        poll s] ++
        sendMoves (k.functionSet ||| s.displayFunction) 0 s s ++
        sendMoves (k.displayControl ||| k.dcDisplayOn) 0 on s ++
        sendMoves k.clearDisplay 0 s s ++ [delay 2 s] ++
        sendMoves (k.entryModeSet ||| k.emLeft) 0 left s ++
        sendMoves k.returnHome 0 s s ++ [delay 2 s] ++
        [completed 0x01 (if s.initFail then .fail else .ok) { s with initDone := true }])

/-- `display_function` for every row count and font flag, with the default `K` (R162). -/
def Obligations.DisplayFunctionIsDerived : Prop :=
  ∀ cfg : Cfg, cfg.k = kDefault →
    (cfg.rows = 1 → cfg.font10 = false → deriveDisplayFunction cfg = 0x00) ∧
    (cfg.rows = 1 → cfg.font10 = true → deriveDisplayFunction cfg = 0x04) ∧
    (2 ≤ cfg.rows → deriveDisplayFunction cfg = 0x08) ∧
    (cfg.rows = 0 → deriveDisplayFunction cfg = 0x00)

/-! ## Whole commands -/

/-- `INIT` runs from acceptance to completion (R160, R173, R176, R283): for every answer of the ten transmits
and any number of false answers to each of the six `POLL`s, the block emits exactly the events of its
micro-program and ends in the terminal state, with `init_done` set and the status that of the recorded
failure. The number of steps is the model's: one to accept, one for each micro-operation and each poll
answered false, one to complete (logs 12, 13); the answers are scripts (log 7), the port a list (log 11), and
`done` is high after the last step (R106, log 6). -/
def Obligations.InitRunsToItsTerminalState : Prop :=
  ∀ (s : State) (a b : Byte) (p : Payload) (rest : List (CmdWord × Payload))
    (st : Nat → Status) (sts : List Status) (k : Nat → Nat) (rs : List Bool),
    s.seq.busy = false →
    s.port = (packWord 0x01 a b, p) :: rest →
    s.tx.script = (List.range 10).map st ++ sts →
    s.ready.script = ((List.range 6).map fun j => pollAnswers (k j)).flatten ++ rs →
    let fail := decide (st 1 = .fail ∨ st 2 = .fail ∨ st 3 = .fail ∨ st 4 = .fail)
    let status := if fail then Status.fail else Status.ok
    runSteps (25 + (k 0 + k 1 + k 2 + k 3 + k 4 + k 5)) s = .next
      { s with
        backlightValue := 0
        displayFunction := deriveDisplayFunction s.cfg
        displayControl := s.cfg.k.dcDisplayOn
        displayMode := s.cfg.k.emLeft
        registerImage := compose (lowNibble s.cfg.k.returnHome) 0 0 0
        initFail := fail
        initDone := true
        seq := { busy := false, cmd := 0x01, a := a, b := b, p := p, upc := 23 }
        done := true
        doneStatus := status
        trace := s.trace ++ [.accept (packWord 0x01 a b) p] ++ initEvents s.cfg st k ++
          [.done 0x01 status]
        port := rest
        tx := { s.tx with script := sts }
        ready := { s.ready with script := rs } }

/-- The order of the ten writes of `INIT` never varies, whatever the transmits answer and however often
the bus is busy (R174, R160), with the default constants (logs 1, 2). The number of steps, which only names
the run, is the model's (logs 12, 13); the answers are scripts (log 7), the port a list (log 11). -/
def Obligations.InitWritesInFixedOrder : Prop :=
  ∀ (s t : State) (a b : Byte) (p : Payload) (rest : List (CmdWord × Payload)) (k : Nat → Nat)
    (st : Nat → Status),
    s.seq.busy = false → s.port = (packWord 0x01 a b, p) :: rest →
    s.cfg.k = kDefault → s.cfg.nibCommit4 = 0x2 →
    s.tx.script = (List.range 10).map st →
    s.ready.script = ((List.range 6).map fun j => pollAnswers (k j)).flatten →
    runSteps (25 + (k 0 + k 1 + k 2 + k 3 + k 4 + k 5)) s = .next t →
    txLists t.trace = txLists s.trace ++
      [[0x00], [0x34, 0x30], [0x34, 0x30], [0x34, 0x30], [0x24, 0x20],
       frame (0x20 ||| deriveDisplayFunction s.cfg) 0 0, [0x04, 0x00, 0xC4, 0xC0],
       [0x04, 0x00, 0x14, 0x10], [0x04, 0x00, 0x64, 0x60], [0x04, 0x00, 0x24, 0x20]]

/-- `WRITE_BYTE` runs from acceptance to completion (R190, R133, R135, R141): one frame, one `POLL` answered
false `k` times, one `Done`; the completion is `OK` whatever the transmit answered (R284). The premise
`init_done` or `preInit = run` is that of log 10; the number of steps is the model's (logs 12, 13); the
answers are scripts (log 7), the port a list (log 11), and `done` is high after the last step (R106,
log 6). -/
def Obligations.WriteByteRunsToCompletion : Prop :=
  ∀ (s : State) (byte b : Byte) (p : Payload) (rest : List (CmdWord × Payload))
    (st : Status) (sts : List Status) (k : Nat) (rs : List Bool),
    s.seq.busy = false → (s.initDone = true ∨ s.preInit = .run) →
    s.port = (packWord 0x02 byte b, p) :: rest →
    s.tx.script = st :: sts → s.ready.script = pollAnswers k ++ rs →
    runSteps (4 + k) s = .next
      { s with
        registerImage := compose (lowNibble byte) 0 1 s.backlightValue
        seq := { busy := false, cmd := 0x02, a := byte, b := b, p := p, upc := 2 }
        done := true
        doneStatus := .ok
        trace := s.trace ++ [.accept (packWord 0x02 byte b) p,
            .tx s.cfg.addr (frame byte 1 s.backlightValue) 100 st] ++
          pollEvents s.cfg.bus k ++ [.done 0x02 .ok]
        port := rest
        tx := { s.tx with script := sts }
        ready := { s.ready with script := rs } }

/-- Every command completes when the bus is always ready (R329, R142, R106). That it takes one step to accept,
one for each micro-operation and one to complete is the model's reading of R141 (log 12); the premise
`INIT`, `init_done` or `preInit = run` is that of log 10; the always-ready bus is a feed (log 7), the port a
list (log 11), and `done` is high after the last step (log 6). -/
def Obligations.CommandsCompleteWhenBusReady : Prop :=
  ∀ (i : Instr) (s : State) (rest : List (CmdWord × Payload)), WellFormed i = true →
    s.seq.busy = false → s.port = encode i :: rest →
    (i.opcode = 0x01 ∨ s.initDone = true ∨ s.preInit = .run) →
    s.ready.script = [] → s.ready.after = some true →
    ∃ t, runSteps (programLength i + 2) s = .next t ∧
      t.seq.busy = false ∧ t.done = true ∧ t.port = rest ∧
      t.trace.getLast? = some (.done i.opcode t.doneStatus)

/-- The hang (R285): at a `POLL` whose `bus_ready` never answers true the block emits `Ready(false)`,
`Delay(1)` for ever and does nothing else: it stays busy at the same micro-operation, and accepts nothing.
The commands that contain no `POLL` do not hang: they complete with `OK` whatever the services answer (R284,
R141). The model's own in it: `done` falls with the first step (R106; log 6), the constant answer is a feed
(log 7), a poll answered false is one step (log 13), and completion is a step of its own, which makes two
steps of a backlight command (log 12). -/
def Obligations.BusNeverReadyHangs : Prop :=
  (∀ (i : Instr) (s : State) (n : Nat), Executing i s → s.seq.upc.toNat ∈ pollsAt i →
    s.ready.script = [] → s.ready.after = some false →
    runSteps n s = .next
      { s with
        done := if n = 0 then s.done else false
        trace := s.trace ++ (List.replicate n [.ready s.cfg.bus false, .delay 1]).flatten }) ∧
  ∀ (i : Instr) (s : State), i.opcode = 0x13 ∨ i.opcode = 0x14 → Executing i s → s.seq.upc = 0 →
    ∃ t, runSteps 2 s = .next t ∧ t.seq.busy = false ∧ t.done = true ∧ t.doneStatus = .ok

/-- What the bus carries does not depend on what the services answer (R75d, R174, R286): two runs from states
that differ only in their feeds (neither of them free), both of which end idle with nothing presented, have
made the same transmits in the same order and end with the same runtime registers. The model's own in it:
the answers are feeds (log 7), the port is a list (log 11), and both runs draw the same free row offsets,
since they start from the same draw counter and only `SET_CURSOR` advances it (logs 8, 9). -/
def Obligations.WireIndependentOfAnswers : Prop :=
  ∀ (s : State) (tx' : Feed Status) (ready' : Feed Bool) (n n' : Nat) (t t' : State),
    s.tx.after.isSome = true → s.ready.after.isSome = true →
    tx'.after.isSome = true → ready'.after.isSome = true →
    runSteps n s = .next t →
    runSteps n' { s with tx := tx', ready := ready' } = .next t' →
    t.seq.busy = false → t.port = [] → t'.seq.busy = false → t'.port = [] →
    txLists t.trace = txLists t'.trace ∧
      t.backlightValue = t'.backlightValue ∧ t.displayFunction = t'.displayFunction ∧
      t.displayControl = t'.displayControl ∧ t.displayMode = t'.displayMode ∧
      t.registerImage = t'.registerImage

/-! ## Invariants and rules of the whole machine -/

/-- The state after reset meets the invariant (log 3: the registers' zeros are the model's choice). -/
def Obligations.ResetMeetsTheInvariant : Prop := Inv State.reset

/-- Every step keeps the invariant (R22 to R26, R30, R61, R69, R75 to R77, R113). -/
def Obligations.StepKeepsTheInvariant : Prop := ∀ s t : State, Inv s → step s = .next t → Inv t

/-- The backlight invariant (R26): every byte handed to a transmit has bit 3 equal to `backlight_value` as
it stands when the byte is composed, and at the moment of a transmit the image's backlight sub-field equals
it too. -/
def Obligations.EveryByteCarriesTheBacklight : Prop :=
  ∀ s t : State, Inv s → step s = .next t →
    ∃ es, t.trace = s.trace ++ es ∧
      ∀ addr v timeout status, Event.tx addr v timeout status ∈ es →
        (∀ y ∈ v, y.extractLsb' 3 1 = t.backlightValue) ∧
        t.registerImage.extractLsb' 3 1 = t.backlightValue

/-- Field independence (R38). -/
def Obligations.FieldsAreIndependent : Prop :=
  ∀ (i : Instr) (s t : State), exec i s = .next t →
    (i.opcode = 0x13 ∨ i.opcode = 0x14 →
      t.displayFunction = s.displayFunction ∧ t.displayControl = s.displayControl ∧
        t.displayMode = s.displayMode ∧ t.initFail = s.initFail ∧ t.initDone = s.initDone) ∧
    (i.opcode ≠ 0x01 → i.opcode ≠ 0x13 → i.opcode ≠ 0x14 → t.backlightValue = s.backlightValue) ∧
    (0x06 ≤ i.opcode → i.opcode ≤ 0x0B →
      t.backlightValue = s.backlightValue ∧ t.displayFunction = s.displayFunction ∧
        t.displayMode = s.displayMode ∧ t.initFail = s.initFail ∧ t.initDone = s.initDone) ∧
    (0x0E ≤ i.opcode → i.opcode ≤ 0x11 →
      t.backlightValue = s.backlightValue ∧ t.displayFunction = s.displayFunction ∧
        t.displayControl = s.displayControl ∧ t.initFail = s.initFail ∧ t.initDone = s.initDone)

/-- The commands of the access table (R36) that write no mode register, no flag and no backlight:
`WRITE_BYTE`, `CLEAR`, `HOME`, `SET_CURSOR`, the shifts and `CREATE_CHAR`; and only `INIT` writes
`display_function`, `init_fail` and `init_done`. -/
def Obligations.AccessTableWriters : Prop :=
  ∀ (i : Instr) (s t : State), exec i s = .next t → i.opcode ≠ 0x01 →
    (t.displayFunction = s.displayFunction ∧ t.initFail = s.initFail ∧ t.initDone = s.initDone) ∧
    (i.opcode ≤ 0x05 ∨ i.opcode = 0x0C ∨ i.opcode = 0x0D ∨ i.opcode = 0x12 →
      t.backlightValue = s.backlightValue ∧ t.displayControl = s.displayControl ∧
        t.displayMode = s.displayMode)

/-- The configuration is constant: no step writes it (R9). -/
def Obligations.ConfigurationIsConstant : Prop :=
  ∀ s t : State, step s = .next t → t.cfg = s.cfg

/-- The trace is only ever appended to: no event is dropped, changed or reordered (R71, R75). -/
def Obligations.TraceOnlyGrows : Prop :=
  ∀ s t : State, step s = .next t → ∃ es, t.trace = s.trace ++ es

/-- `init_done` is set when an `INIT` completes, whatever its status, and never cleared (R29). -/
def Obligations.InitDoneIsSetByInitOnly : Prop :=
  ∀ s t : State, step s = .next t →
    (s.initDone = true → t.initDone = true) ∧
    (s.initDone = false →
      (t.initDone = true ↔
        s.seq.busy = true ∧ s.seq.cmd = 0x01 ∧ s.seq.upc = 23))

/-- The recorded failure (R282, R281): `init_fail` is set only by the transmits of `INIT` steps 5 and 6 when
they fail, is cleared only by step 1, and never changes what comes next: `upc` moves on and the block stays
busy. -/
def Obligations.InitFailRecordsFourTransmits : Prop :=
  ∀ (a b : Byte) (p : Payload) (s t : State), s.seq.busy = true → s.seq.upc.toNat < 23 →
    exec (.init a b p) s = .next t →
    (s.seq.upc = 0 → t.initFail = false) ∧
    (s.seq.upc = 3 ∨ s.seq.upc = 5 ∨ s.seq.upc = 7 ∨ s.seq.upc = 9 →
      t.initFail = (s.initFail || decide (txAnswer s = .fail)) ∧
      t.seq = { s.seq with upc := s.seq.upc + 1 }) ∧
    (s.seq.upc ≠ 0 → s.seq.upc ≠ 3 → s.seq.upc ≠ 5 → s.seq.upc ≠ 7 → s.seq.upc ≠ 9 →
      t.initFail = s.initFail)

/-- Completion (R106, R283, R284): `done` is high after a step exactly when that step completed a command,
whose `Done` it appended; `INIT` completes with `FAIL` exactly when `init_fail` is 1, every other command
with `OK`, always. That `done` is lowered by the next step is the model's reading of "for one step" in R106
(log 6). -/
def Obligations.OnlyInitReportsFailure : Prop :=
  ∀ s t : State, step s = .next t →
    (t.done = true ↔ s.seq.busy = true ∧ t.seq.busy = false) ∧
    (t.done = true → ∃ i, Executing i s ∧
      t.trace = s.trace ++ [.done i.opcode t.doneStatus] ∧
      (i.opcode = 0x01 → t.doneStatus = if s.initFail then .fail else .ok) ∧
      (i.opcode ≠ 0x01 → t.doneStatus = .ok))

/-- Idempotence of the set and clear commands (R206): running one twice leaves the registers as running it
once, and sends one more frame. -/
def Obligations.FlagCommandsAreIdempotent : Prop :=
  ∀ (i : Instr) (s t u : State),
    ((0x06 ≤ i.opcode ∧ i.opcode ≤ 0x0B) ∨ (0x0E ≤ i.opcode ∧ i.opcode ≤ 0x11)) →
    s.seq.busy = true → s.seq.upc = 0 → exec i s = .next t →
    exec i { t with seq := s.seq } = .next u →
    u.displayControl = t.displayControl ∧ u.displayMode = t.displayMode ∧
      ∃ v, v.length = 4 ∧ txLists u.trace = txLists t.trace ++ [v]

/-- The barrier (R77): while the bus-ready wait of a `send` has not ended, a step emits one more poll and
nothing else, and `upc` moves on only when `bus_ready` has answered true. -/
def Obligations.SendWaitsForTheBus : Prop :=
  ∀ s t : State, Inv s → seqPhase s = .waiting → step s = .next t →
    (t.trace = s.trace ++ [.ready s.cfg.bus true] ∧
      t.seq = { s.seq with upc := s.seq.upc + 1 }) ∨
    (t.trace = s.trace ++ [.ready s.cfg.bus false, .delay 1] ∧ t.seq = s.seq)

/-- The image mirrors the expander's latch (R25, R33a, U14): after a delivered transmit the latch holds the
image, after a failed one it is unknown, and a step that transmits nothing leaves it. -/
def Obligations.ImageMirrorsTheExpander : Prop :=
  ∀ s t : State, step s = .next t →
    (∀ addr v timeout, t.trace = s.trace ++ [.tx addr v timeout .ok] →
      expanderLatch t.trace = .holds t.registerImage) ∧
    (∀ addr v timeout, t.trace = s.trace ++ [.tx addr v timeout .fail] →
      expanderLatch t.trace = .unknown) ∧
    (txLists t.trace = txLists s.trace → expanderLatch t.trace = expanderLatch s.trace)

/-! ## Reset -/

/-- What reset leaves, of the values the spec gives (R310, R35): idle, both status bits 0, the trace
empty. -/
def Obligations.ResetLeavesTheBlockIdle : Prop :=
  State.reset.seq.busy = false ∧ State.reset.initDone = false ∧ State.reset.initFail = false ∧
    State.reset.trace = []

/-- Nothing the block holds survives a loss of power (R300, R34; log 23): the state after it is idle,
uninitialized and with an empty trace, keeps the straps, and depends on nothing but the straps and the
inputs. -/
def Obligations.PowerCycleLosesEverything : Prop :=
  ∀ s s' : State,
    ((s.powerCycle).seq.busy = false ∧ (s.powerCycle).initDone = false ∧
      (s.powerCycle).initFail = false ∧ (s.powerCycle).trace = [] ∧
      (s.powerCycle).cfg = s.cfg) ∧
    (s.cfg = s'.cfg → s.port = s'.port → s.tx = s'.tx → s.ready = s'.ready →
      s.draws = s'.draws → s.preInit = s'.preInit → s.powerCycle = s'.powerCycle)

/-! ## The host-side pseudo-operations -/

/-- `PRINT_STRING` (R260): one `WRITE_BYTE` for each character, in order, up to the terminator, which is
not sent. -/
def Obligations.PrintStringSendsEachCharacter : Prop :=
  ∀ s after : List Byte, (∀ c ∈ s, c ≠ 0x00) →
    printString s = s.map (fun c => Instr.writeByte c 0 0) ∧
    printString (s ++ 0x00 :: after) = s.map (fun c => Instr.writeByte c 0 0)

/-- The numeral formatter round-trips (R270): parsing what it produces gives the value back, with no leading
zero; zero gives "0"; and every value that fits the buffer is formatted. -/
def Obligations.FormatRoundTrips : Prop :=
  ∀ fmtBuf value base : Nat, base = 8 ∨ base = 10 ∨ base = 16 →
    (∀ ds, format fmtBuf value base = .ok ds →
      parse base ds = value ∧ ds ≠ [] ∧ ds.length ≤ fmtBuf ∧
        (∀ c ∈ ds, (0x30 ≤ c ∧ c ≤ 0x39) ∨ (0x41 ≤ c ∧ c ≤ 0x46)) ∧
        (value ≠ 0 → ds.head? ≠ some 0x30)) ∧
    (1 ≤ fmtBuf → value < base ^ fmtBuf → ∃ ds, format fmtBuf value base = .ok ds) ∧
    (1 ≤ fmtBuf → format fmtBuf 0 base = .ok [0x30])

/-- `PRINTF` (R261 to R268): literals verbatim; each specifier consumes one argument; an unknown specifier
emits nothing and consumes none; a trailing `%` and a missing argument are refused. -/
def Obligations.PrintfScansTheFormat : Prop :=
  ∀ (hp : HostParams) (c d : Byte) (fmt : List Byte) (raw : Nat) (str : List Byte)
    (args : List Arg),
    (c ≠ 0x25 → printf hp (c :: fmt) args =
      (printf hp fmt args).map fun out => Instr.writeByte c 0 0 :: out) ∧
    printf hp (0x25 :: 0x63 :: fmt) (.int raw :: args) =
      (printf hp fmt args).map (fun out => Instr.writeByte (BitVec.ofNat 8 raw) 0 0 :: out) ∧
    printf hp (0x25 :: 0x73 :: fmt) (.str str :: args) =
      (printf hp fmt args).map (fun out => printString str ++ out) ∧
    (∀ base ds, (d = 0x6F ∧ base = 8) ∨ (d = 0x78 ∧ base = 16) →
      format hp.fmtBuf (raw % 2 ^ hp.wInt) base = .ok ds →
      printf hp (0x25 :: d :: fmt) (.int raw :: args) =
        (printf hp fmt args).map fun out => ds.map (fun x => Instr.writeByte x 0 0) ++ out) ∧
    (∀ ds, 0 ≤ (BitVec.ofNat hp.wInt raw).toInt →
      format hp.fmtBuf (BitVec.ofNat hp.wInt raw).toInt.natAbs 10 = .ok ds →
      printf hp (0x25 :: 0x64 :: fmt) (.int raw :: args) =
        (printf hp fmt args).map fun out => ds.map (fun x => Instr.writeByte x 0 0) ++ out) ∧
    (∀ ds, (BitVec.ofNat hp.wInt raw).toInt < 0 →
      (BitVec.ofNat hp.wInt raw).toInt ≠ -(2 ^ (hp.wInt - 1) : Nat) →
      format hp.fmtBuf (BitVec.ofNat hp.wInt raw).toInt.natAbs 10 = .ok ds →
      printf hp (0x25 :: 0x64 :: fmt) (.int raw :: args) =
        (printf hp fmt args).map fun out =>
          Instr.writeByte 0x2D 0 0 :: (ds.map (fun x => Instr.writeByte x 0 0) ++ out)) ∧
    (d ≠ 0x63 → d ≠ 0x64 → d ≠ 0x6F → d ≠ 0x78 → d ≠ 0x73 →
      printf hp (0x25 :: d :: fmt) args = printf hp fmt args) ∧
    printf hp [0x25] args = .error .trailingPercent ∧
    (d = 0x63 ∨ d = 0x64 ∨ d = 0x6F ∨ d = 0x78 ∨ d = 0x73 →
      printf hp (0x25 :: d :: fmt) [] = .error .missingArgument)
end

