-- ==== Sys2Proof/Laws/Decode.lean ====
section
/-! SUPPORT. The fields of a packed word and the rows of a packed bitmap read back (30_encoding.md
R107). -/

namespace Sys2Proof

@[simp] theorem opField_packWord (op a b : Byte) : opField (packWord op a b) = op := by
  apply BitVec.eq_of_getLsbD_eq
  intro i hi
  simp only [opField, packWord, BitVec.getLsbD_extractLsb', BitVec.getLsbD_append]
  rw [if_neg (by omega), if_neg (by omega)]
  simp [hi, show 16 + i - 8 - 8 = i by omega]

@[simp] theorem aField_packWord (op a b : Byte) : aField (packWord op a b) = a := by
  apply BitVec.eq_of_getLsbD_eq
  intro i hi
  simp only [aField, packWord, BitVec.getLsbD_extractLsb', BitVec.getLsbD_append]
  rw [if_neg (by omega), if_pos (by omega)]
  simp [hi, show 8 + i - 8 = i by omega]

@[simp] theorem bField_packWord (op a b : Byte) : bField (packWord op a b) = b := by
  apply BitVec.eq_of_getLsbD_eq
  intro i hi
  simp only [bField, packWord, BitVec.getLsbD_extractLsb', BitVec.getLsbD_append]
  rw [if_pos (by omega)]
  simp [hi]

/-- A word is the packing of its fields. -/
theorem packWord_fields (w : CmdWord) : packWord (opField w) (aField w) (bField w) = w := by
  apply BitVec.eq_of_getLsbD_eq
  intro i hi
  simp only [opField, aField, bField, packWord, BitVec.getLsbD_extractLsb', BitVec.getLsbD_append]
  by_cases h1 : i < 8
  · simp [h1]
  · by_cases h2 : i - 8 < 8
    · rw [if_neg h1, if_pos h2]; simp [h2, show 8 + (i - 8) = i by omega]
    · rw [if_neg h1, if_neg h2]
      simp [show i - 8 - 8 < 8 by omega, show 16 + (i - 8 - 8) = i by omega]

theorem packBitmap_cons (row : Byte) (rows : List Byte) :
    packBitmap (row :: rows) = (packBitmap rows <<< 8) ||| row.setWidth 64 := rfl

/-- The first row is the least significant byte. -/
theorem bitmapRow_zero_cons (row : Byte) (rows : List Byte) :
    bitmapRow (packBitmap (row :: rows)) 0 = row := by
  apply BitVec.eq_of_getLsbD_eq
  intro j hj
  simp only [bitmapRow, packBitmap_cons, BitVec.getLsbD_extractLsb', BitVec.getLsbD_or,
    BitVec.getLsbD_shiftLeft, BitVec.getLsbD_setWidth]
  simp [hj, show j < 64 by omega]

/-- The other rows stand one byte higher. -/
theorem bitmapRow_succ_cons (row : Byte) (rows : List Byte) (i : Nat) (h : i < 7) :
    bitmapRow (packBitmap (row :: rows)) (i + 1) = bitmapRow (packBitmap rows) i := by
  apply BitVec.eq_of_getLsbD_eq
  intro j hj
  simp only [bitmapRow, packBitmap_cons, BitVec.getLsbD_extractLsb', BitVec.getLsbD_or,
    BitVec.getLsbD_shiftLeft, BitVec.getLsbD_setWidth]
  have h1 : 8 * (i + 1) + j < 64 := by omega
  have h2 : ¬ 8 * (i + 1) + j < 8 := by omega
  simp [hj, h1, h2, show 8 * (i + 1) + j - 8 = 8 * i + j by omega,
    BitVec.getLsbD_of_ge row (8 * (i + 1) + j) (by omega)]

end Sys2Proof
end

