-- ==== Sys2Proof/Laws/State.lean ====
section
/-! SUPPORT. What each named register update does to each field of the state, so that no proof unfolds
a record update. -/

namespace Sys2Proof.Machine

/-! ### `emit` -/

@[simp] theorem State.emit_backlightValue (s : State) (e : Event) :
    (s.emit e).backlightValue = s.backlightValue := rfl
@[simp] theorem State.emit_displayFunction (s : State) (e : Event) :
    (s.emit e).displayFunction = s.displayFunction := rfl
@[simp] theorem State.emit_displayControl (s : State) (e : Event) :
    (s.emit e).displayControl = s.displayControl := rfl
@[simp] theorem State.emit_displayMode (s : State) (e : Event) :
    (s.emit e).displayMode = s.displayMode := rfl
@[simp] theorem State.emit_registerImage (s : State) (e : Event) :
    (s.emit e).registerImage = s.registerImage := rfl
@[simp] theorem State.emit_initFail (s : State) (e : Event) :
    (s.emit e).initFail = s.initFail := rfl
@[simp] theorem State.emit_initDone (s : State) (e : Event) :
    (s.emit e).initDone = s.initDone := rfl
@[simp] theorem State.emit_seq (s : State) (e : Event) : (s.emit e).seq = s.seq := rfl
@[simp] theorem State.emit_cfg (s : State) (e : Event) : (s.emit e).cfg = s.cfg := rfl
@[simp] theorem State.emit_done (s : State) (e : Event) : (s.emit e).done = s.done := rfl
@[simp] theorem State.emit_doneStatus (s : State) (e : Event) :
    (s.emit e).doneStatus = s.doneStatus := rfl
@[simp] theorem State.emit_trace (s : State) (e : Event) : (s.emit e).trace = s.trace ++ [e] := rfl
@[simp] theorem State.emit_port (s : State) (e : Event) : (s.emit e).port = s.port := rfl
@[simp] theorem State.emit_tx (s : State) (e : Event) : (s.emit e).tx = s.tx := rfl
@[simp] theorem State.emit_ready (s : State) (e : Event) : (s.emit e).ready = s.ready := rfl
@[simp] theorem State.emit_draws (s : State) (e : Event) : (s.emit e).draws = s.draws := rfl
@[simp] theorem State.emit_preInit (s : State) (e : Event) : (s.emit e).preInit = s.preInit := rfl

/-! ### `advance` -/

@[simp] theorem State.advance_backlightValue (s : State) :
    (s.advance).backlightValue = s.backlightValue := rfl
@[simp] theorem State.advance_displayFunction (s : State) :
    (s.advance).displayFunction = s.displayFunction := rfl
@[simp] theorem State.advance_displayControl (s : State) :
    (s.advance).displayControl = s.displayControl := rfl
@[simp] theorem State.advance_displayMode (s : State) :
    (s.advance).displayMode = s.displayMode := rfl
@[simp] theorem State.advance_registerImage (s : State) :
    (s.advance).registerImage = s.registerImage := rfl
@[simp] theorem State.advance_initFail (s : State) : (s.advance).initFail = s.initFail := rfl
@[simp] theorem State.advance_initDone (s : State) : (s.advance).initDone = s.initDone := rfl
@[simp] theorem State.advance_seq (s : State) :
    (s.advance).seq = { s.seq with upc := s.seq.upc + 1 } := rfl
@[simp] theorem State.advance_cfg (s : State) : (s.advance).cfg = s.cfg := rfl
@[simp] theorem State.advance_done (s : State) : (s.advance).done = s.done := rfl
@[simp] theorem State.advance_doneStatus (s : State) : (s.advance).doneStatus = s.doneStatus := rfl
@[simp] theorem State.advance_trace (s : State) : (s.advance).trace = s.trace := rfl
@[simp] theorem State.advance_port (s : State) : (s.advance).port = s.port := rfl
@[simp] theorem State.advance_tx (s : State) : (s.advance).tx = s.tx := rfl
@[simp] theorem State.advance_ready (s : State) : (s.advance).ready = s.ready := rfl
@[simp] theorem State.advance_draws (s : State) : (s.advance).draws = s.draws := rfl
@[simp] theorem State.advance_preInit (s : State) : (s.advance).preInit = s.preInit := rfl

/-! ### `afterTxAnswer` -/

@[simp] theorem afterTxAnswer_backlightValue (s : State) :
    (afterTxAnswer s).backlightValue = s.backlightValue := rfl
@[simp] theorem afterTxAnswer_displayFunction (s : State) :
    (afterTxAnswer s).displayFunction = s.displayFunction := rfl
@[simp] theorem afterTxAnswer_displayControl (s : State) :
    (afterTxAnswer s).displayControl = s.displayControl := rfl
@[simp] theorem afterTxAnswer_displayMode (s : State) :
    (afterTxAnswer s).displayMode = s.displayMode := rfl
@[simp] theorem afterTxAnswer_registerImage (s : State) :
    (afterTxAnswer s).registerImage = s.registerImage := rfl
@[simp] theorem afterTxAnswer_initFail (s : State) : (afterTxAnswer s).initFail = s.initFail := rfl
@[simp] theorem afterTxAnswer_initDone (s : State) : (afterTxAnswer s).initDone = s.initDone := rfl
@[simp] theorem afterTxAnswer_seq (s : State) : (afterTxAnswer s).seq = s.seq := rfl
@[simp] theorem afterTxAnswer_cfg (s : State) : (afterTxAnswer s).cfg = s.cfg := rfl
@[simp] theorem afterTxAnswer_done (s : State) : (afterTxAnswer s).done = s.done := rfl
@[simp] theorem afterTxAnswer_doneStatus (s : State) :
    (afterTxAnswer s).doneStatus = s.doneStatus := rfl
@[simp] theorem afterTxAnswer_trace (s : State) : (afterTxAnswer s).trace = s.trace := rfl
@[simp] theorem afterTxAnswer_port (s : State) : (afterTxAnswer s).port = s.port := rfl
@[simp] theorem afterTxAnswer_tx (s : State) : (afterTxAnswer s).tx = s.tx.rest := rfl
@[simp] theorem afterTxAnswer_ready (s : State) : (afterTxAnswer s).ready = s.ready := rfl
@[simp] theorem afterTxAnswer_draws (s : State) :
    (afterTxAnswer s).draws = if s.tx.isFree then s.draws + 1 else s.draws := rfl
@[simp] theorem afterTxAnswer_preInit (s : State) : (afterTxAnswer s).preInit = s.preInit := rfl

/-! ### `afterReadyAnswer` -/

@[simp] theorem afterReadyAnswer_backlightValue (s : State) :
    (afterReadyAnswer s).backlightValue = s.backlightValue := rfl
@[simp] theorem afterReadyAnswer_displayFunction (s : State) :
    (afterReadyAnswer s).displayFunction = s.displayFunction := rfl
@[simp] theorem afterReadyAnswer_displayControl (s : State) :
    (afterReadyAnswer s).displayControl = s.displayControl := rfl
@[simp] theorem afterReadyAnswer_displayMode (s : State) :
    (afterReadyAnswer s).displayMode = s.displayMode := rfl
@[simp] theorem afterReadyAnswer_registerImage (s : State) :
    (afterReadyAnswer s).registerImage = s.registerImage := rfl
@[simp] theorem afterReadyAnswer_initFail (s : State) :
    (afterReadyAnswer s).initFail = s.initFail := rfl
@[simp] theorem afterReadyAnswer_initDone (s : State) :
    (afterReadyAnswer s).initDone = s.initDone := rfl
@[simp] theorem afterReadyAnswer_seq (s : State) : (afterReadyAnswer s).seq = s.seq := rfl
@[simp] theorem afterReadyAnswer_cfg (s : State) : (afterReadyAnswer s).cfg = s.cfg := rfl
@[simp] theorem afterReadyAnswer_done (s : State) : (afterReadyAnswer s).done = s.done := rfl
@[simp] theorem afterReadyAnswer_doneStatus (s : State) :
    (afterReadyAnswer s).doneStatus = s.doneStatus := rfl
@[simp] theorem afterReadyAnswer_trace (s : State) : (afterReadyAnswer s).trace = s.trace := rfl
@[simp] theorem afterReadyAnswer_port (s : State) : (afterReadyAnswer s).port = s.port := rfl
@[simp] theorem afterReadyAnswer_tx (s : State) : (afterReadyAnswer s).tx = s.tx := rfl
@[simp] theorem afterReadyAnswer_ready (s : State) :
    (afterReadyAnswer s).ready = s.ready.rest := rfl
@[simp] theorem afterReadyAnswer_draws (s : State) :
    (afterReadyAnswer s).draws = if s.ready.isFree then s.draws + 1 else s.draws := rfl
@[simp] theorem afterReadyAnswer_preInit (s : State) :
    (afterReadyAnswer s).preInit = s.preInit := rfl

/-! ### `raiseInitFail` -/

@[simp] theorem raiseInitFail_backlightValue (s : State) :
    (raiseInitFail s).backlightValue = s.backlightValue := rfl
@[simp] theorem raiseInitFail_displayFunction (s : State) :
    (raiseInitFail s).displayFunction = s.displayFunction := rfl
@[simp] theorem raiseInitFail_displayControl (s : State) :
    (raiseInitFail s).displayControl = s.displayControl := rfl
@[simp] theorem raiseInitFail_displayMode (s : State) :
    (raiseInitFail s).displayMode = s.displayMode := rfl
@[simp] theorem raiseInitFail_registerImage (s : State) :
    (raiseInitFail s).registerImage = s.registerImage := rfl
@[simp] theorem raiseInitFail_initFail (s : State) : (raiseInitFail s).initFail = true := rfl
@[simp] theorem raiseInitFail_initDone (s : State) : (raiseInitFail s).initDone = s.initDone := rfl
@[simp] theorem raiseInitFail_seq (s : State) : (raiseInitFail s).seq = s.seq := rfl
@[simp] theorem raiseInitFail_cfg (s : State) : (raiseInitFail s).cfg = s.cfg := rfl
@[simp] theorem raiseInitFail_done (s : State) : (raiseInitFail s).done = s.done := rfl
@[simp] theorem raiseInitFail_doneStatus (s : State) :
    (raiseInitFail s).doneStatus = s.doneStatus := rfl
@[simp] theorem raiseInitFail_trace (s : State) : (raiseInitFail s).trace = s.trace := rfl
@[simp] theorem raiseInitFail_port (s : State) : (raiseInitFail s).port = s.port := rfl
@[simp] theorem raiseInitFail_tx (s : State) : (raiseInitFail s).tx = s.tx := rfl
@[simp] theorem raiseInitFail_ready (s : State) : (raiseInitFail s).ready = s.ready := rfl
@[simp] theorem raiseInitFail_draws (s : State) : (raiseInitFail s).draws = s.draws := rfl
@[simp] theorem raiseInitFail_preInit (s : State) : (raiseInitFail s).preInit = s.preInit := rfl

/-! ### `lowerDone` -/

@[simp] theorem lowerDone_backlightValue (s : State) :
    (lowerDone s).backlightValue = s.backlightValue := rfl
@[simp] theorem lowerDone_displayFunction (s : State) :
    (lowerDone s).displayFunction = s.displayFunction := rfl
@[simp] theorem lowerDone_displayControl (s : State) :
    (lowerDone s).displayControl = s.displayControl := rfl
@[simp] theorem lowerDone_displayMode (s : State) : (lowerDone s).displayMode = s.displayMode := rfl
@[simp] theorem lowerDone_registerImage (s : State) :
    (lowerDone s).registerImage = s.registerImage := rfl
@[simp] theorem lowerDone_initFail (s : State) : (lowerDone s).initFail = s.initFail := rfl
@[simp] theorem lowerDone_initDone (s : State) : (lowerDone s).initDone = s.initDone := rfl
@[simp] theorem lowerDone_seq (s : State) : (lowerDone s).seq = s.seq := rfl
@[simp] theorem lowerDone_cfg (s : State) : (lowerDone s).cfg = s.cfg := rfl
@[simp] theorem lowerDone_done (s : State) : (lowerDone s).done = false := rfl
@[simp] theorem lowerDone_doneStatus (s : State) : (lowerDone s).doneStatus = s.doneStatus := rfl
@[simp] theorem lowerDone_trace (s : State) : (lowerDone s).trace = s.trace := rfl
@[simp] theorem lowerDone_port (s : State) : (lowerDone s).port = s.port := rfl
@[simp] theorem lowerDone_tx (s : State) : (lowerDone s).tx = s.tx := rfl
@[simp] theorem lowerDone_ready (s : State) : (lowerDone s).ready = s.ready := rfl
@[simp] theorem lowerDone_draws (s : State) : (lowerDone s).draws = s.draws := rfl
@[simp] theorem lowerDone_preInit (s : State) : (lowerDone s).preInit = s.preInit := rfl

/-! ### `popPort` -/

@[simp] theorem popPort_backlightValue (s : State) : (popPort s).backlightValue = s.backlightValue := rfl
@[simp] theorem popPort_displayFunction (s : State) : (popPort s).displayFunction = s.displayFunction := rfl
@[simp] theorem popPort_displayControl (s : State) : (popPort s).displayControl = s.displayControl := rfl
@[simp] theorem popPort_displayMode (s : State) : (popPort s).displayMode = s.displayMode := rfl
@[simp] theorem popPort_registerImage (s : State) : (popPort s).registerImage = s.registerImage := rfl
@[simp] theorem popPort_initFail (s : State) : (popPort s).initFail = s.initFail := rfl
@[simp] theorem popPort_initDone (s : State) : (popPort s).initDone = s.initDone := rfl
@[simp] theorem popPort_seq (s : State) : (popPort s).seq = s.seq := rfl
@[simp] theorem popPort_cfg (s : State) : (popPort s).cfg = s.cfg := rfl
@[simp] theorem popPort_done (s : State) : (popPort s).done = s.done := rfl
@[simp] theorem popPort_doneStatus (s : State) : (popPort s).doneStatus = s.doneStatus := rfl
@[simp] theorem popPort_trace (s : State) : (popPort s).trace = s.trace := rfl
@[simp] theorem popPort_port (s : State) : (popPort s).port = s.port.tail := rfl
@[simp] theorem popPort_tx (s : State) : (popPort s).tx = s.tx := rfl
@[simp] theorem popPort_ready (s : State) : (popPort s).ready = s.ready := rfl
@[simp] theorem popPort_draws (s : State) : (popPort s).draws = s.draws := rfl
@[simp] theorem popPort_preInit (s : State) : (popPort s).preInit = s.preInit := rfl

/-! ### `setDisplayControl` -/

@[simp] theorem setDisplayControl_backlightValue (s : State) (v : Byte) :
    (setDisplayControl v s).backlightValue = s.backlightValue := rfl
@[simp] theorem setDisplayControl_displayFunction (s : State) (v : Byte) :
    (setDisplayControl v s).displayFunction = s.displayFunction := rfl
@[simp] theorem setDisplayControl_displayControl (s : State) (v : Byte) :
    (setDisplayControl v s).displayControl = v := rfl
@[simp] theorem setDisplayControl_displayMode (s : State) (v : Byte) :
    (setDisplayControl v s).displayMode = s.displayMode := rfl
@[simp] theorem setDisplayControl_registerImage (s : State) (v : Byte) :
    (setDisplayControl v s).registerImage = s.registerImage := rfl
@[simp] theorem setDisplayControl_initFail (s : State) (v : Byte) :
    (setDisplayControl v s).initFail = s.initFail := rfl
@[simp] theorem setDisplayControl_initDone (s : State) (v : Byte) :
    (setDisplayControl v s).initDone = s.initDone := rfl
@[simp] theorem setDisplayControl_seq (s : State) (v : Byte) :
    (setDisplayControl v s).seq = s.seq := rfl
@[simp] theorem setDisplayControl_cfg (s : State) (v : Byte) :
    (setDisplayControl v s).cfg = s.cfg := rfl
@[simp] theorem setDisplayControl_done (s : State) (v : Byte) :
    (setDisplayControl v s).done = s.done := rfl
@[simp] theorem setDisplayControl_doneStatus (s : State) (v : Byte) :
    (setDisplayControl v s).doneStatus = s.doneStatus := rfl
@[simp] theorem setDisplayControl_trace (s : State) (v : Byte) :
    (setDisplayControl v s).trace = s.trace := rfl
@[simp] theorem setDisplayControl_port (s : State) (v : Byte) :
    (setDisplayControl v s).port = s.port := rfl
@[simp] theorem setDisplayControl_tx (s : State) (v : Byte) :
    (setDisplayControl v s).tx = s.tx := rfl
@[simp] theorem setDisplayControl_ready (s : State) (v : Byte) :
    (setDisplayControl v s).ready = s.ready := rfl
@[simp] theorem setDisplayControl_draws (s : State) (v : Byte) :
    (setDisplayControl v s).draws = s.draws := rfl
@[simp] theorem setDisplayControl_preInit (s : State) (v : Byte) :
    (setDisplayControl v s).preInit = s.preInit := rfl

/-! ### `setDisplayMode` -/

@[simp] theorem setDisplayMode_backlightValue (s : State) (v : Byte) :
    (setDisplayMode v s).backlightValue = s.backlightValue := rfl
@[simp] theorem setDisplayMode_displayFunction (s : State) (v : Byte) :
    (setDisplayMode v s).displayFunction = s.displayFunction := rfl
@[simp] theorem setDisplayMode_displayControl (s : State) (v : Byte) :
    (setDisplayMode v s).displayControl = s.displayControl := rfl
@[simp] theorem setDisplayMode_displayMode (s : State) (v : Byte) :
    (setDisplayMode v s).displayMode = v := rfl
@[simp] theorem setDisplayMode_registerImage (s : State) (v : Byte) :
    (setDisplayMode v s).registerImage = s.registerImage := rfl
@[simp] theorem setDisplayMode_initFail (s : State) (v : Byte) :
    (setDisplayMode v s).initFail = s.initFail := rfl
@[simp] theorem setDisplayMode_initDone (s : State) (v : Byte) :
    (setDisplayMode v s).initDone = s.initDone := rfl
@[simp] theorem setDisplayMode_seq (s : State) (v : Byte) : (setDisplayMode v s).seq = s.seq := rfl
@[simp] theorem setDisplayMode_cfg (s : State) (v : Byte) : (setDisplayMode v s).cfg = s.cfg := rfl
@[simp] theorem setDisplayMode_done (s : State) (v : Byte) :
    (setDisplayMode v s).done = s.done := rfl
@[simp] theorem setDisplayMode_doneStatus (s : State) (v : Byte) :
    (setDisplayMode v s).doneStatus = s.doneStatus := rfl
@[simp] theorem setDisplayMode_trace (s : State) (v : Byte) :
    (setDisplayMode v s).trace = s.trace := rfl
@[simp] theorem setDisplayMode_port (s : State) (v : Byte) :
    (setDisplayMode v s).port = s.port := rfl
@[simp] theorem setDisplayMode_tx (s : State) (v : Byte) : (setDisplayMode v s).tx = s.tx := rfl
@[simp] theorem setDisplayMode_ready (s : State) (v : Byte) :
    (setDisplayMode v s).ready = s.ready := rfl
@[simp] theorem setDisplayMode_draws (s : State) (v : Byte) :
    (setDisplayMode v s).draws = s.draws := rfl
@[simp] theorem setDisplayMode_preInit (s : State) (v : Byte) :
    (setDisplayMode v s).preInit = s.preInit := rfl

/-! ### `setBacklight` -/

@[simp] theorem setBacklight_backlightValue (s : State) (v : Bit) :
    (setBacklight v s).backlightValue = v := rfl
@[simp] theorem setBacklight_displayFunction (s : State) (v : Bit) :
    (setBacklight v s).displayFunction = s.displayFunction := rfl
@[simp] theorem setBacklight_displayControl (s : State) (v : Bit) :
    (setBacklight v s).displayControl = s.displayControl := rfl
@[simp] theorem setBacklight_displayMode (s : State) (v : Bit) :
    (setBacklight v s).displayMode = s.displayMode := rfl
@[simp] theorem setBacklight_registerImage (s : State) (v : Bit) :
    (setBacklight v s).registerImage = withBacklight s.registerImage v := rfl
@[simp] theorem setBacklight_initFail (s : State) (v : Bit) :
    (setBacklight v s).initFail = s.initFail := rfl
@[simp] theorem setBacklight_initDone (s : State) (v : Bit) :
    (setBacklight v s).initDone = s.initDone := rfl
@[simp] theorem setBacklight_seq (s : State) (v : Bit) : (setBacklight v s).seq = s.seq := rfl
@[simp] theorem setBacklight_cfg (s : State) (v : Bit) : (setBacklight v s).cfg = s.cfg := rfl
@[simp] theorem setBacklight_done (s : State) (v : Bit) : (setBacklight v s).done = s.done := rfl
@[simp] theorem setBacklight_doneStatus (s : State) (v : Bit) :
    (setBacklight v s).doneStatus = s.doneStatus := rfl
@[simp] theorem setBacklight_trace (s : State) (v : Bit) : (setBacklight v s).trace = s.trace := rfl
@[simp] theorem setBacklight_port (s : State) (v : Bit) : (setBacklight v s).port = s.port := rfl
@[simp] theorem setBacklight_tx (s : State) (v : Bit) : (setBacklight v s).tx = s.tx := rfl
@[simp] theorem setBacklight_ready (s : State) (v : Bit) : (setBacklight v s).ready = s.ready := rfl
@[simp] theorem setBacklight_draws (s : State) (v : Bit) : (setBacklight v s).draws = s.draws := rfl
@[simp] theorem setBacklight_preInit (s : State) (v : Bit) :
    (setBacklight v s).preInit = s.preInit := rfl

/-! ### `initStep1` -/

@[simp] theorem initStep1_backlightValue (s : State) : (initStep1 s).backlightValue = 0 := rfl
@[simp] theorem initStep1_displayFunction (s : State) :
    (initStep1 s).displayFunction = deriveDisplayFunction s.cfg := rfl
@[simp] theorem initStep1_displayControl (s : State) : (initStep1 s).displayControl = 0 := rfl
@[simp] theorem initStep1_displayMode (s : State) : (initStep1 s).displayMode = 0 := rfl
@[simp] theorem initStep1_registerImage (s : State) : (initStep1 s).registerImage = 0 := rfl
@[simp] theorem initStep1_initFail (s : State) : (initStep1 s).initFail = false := rfl
@[simp] theorem initStep1_initDone (s : State) : (initStep1 s).initDone = s.initDone := rfl
@[simp] theorem initStep1_seq (s : State) : (initStep1 s).seq = s.seq := rfl
@[simp] theorem initStep1_cfg (s : State) : (initStep1 s).cfg = s.cfg := rfl
@[simp] theorem initStep1_done (s : State) : (initStep1 s).done = s.done := rfl
@[simp] theorem initStep1_doneStatus (s : State) : (initStep1 s).doneStatus = s.doneStatus := rfl
@[simp] theorem initStep1_trace (s : State) : (initStep1 s).trace = s.trace := rfl
@[simp] theorem initStep1_port (s : State) : (initStep1 s).port = s.port := rfl
@[simp] theorem initStep1_tx (s : State) : (initStep1 s).tx = s.tx := rfl
@[simp] theorem initStep1_ready (s : State) : (initStep1 s).ready = s.ready := rfl
@[simp] theorem initStep1_draws (s : State) : (initStep1 s).draws = s.draws := rfl
@[simp] theorem initStep1_preInit (s : State) : (initStep1 s).preInit = s.preInit := rfl

end Sys2Proof.Machine
end

