-- ==== Sys2Proof/Laws/Ops.lean ====
section
/-! SUPPORT. What each shared operation does, one lemma per field, and what one move of the
micro-sequencer can be (40_transport.md R141), so that callers cite it rather than unfold it. -/

namespace Sys2Proof.Machine

/-! ## The expander byte -/

/-- The layout of R90 read back from `compose` (R130). -/
@[simp] theorem expanderFields_compose (data : Nibble) (en rs bl : Bit) :
    expanderFields (compose data en rs bl) = ⟨data, bl, en, 0, rs⟩ := by
  revert data en rs bl; decide

/-- `set_backlight` changes only the backlight sub-field of the image (R250). -/
@[simp] theorem expanderFields_withBacklight (y : Byte) (v : Bit) :
    expanderFields (withBacklight y v) = { expanderFields y with bl := v } := by
  revert y v; decide

/-- A byte is the concatenation of its nibbles (R95). -/
@[simp] theorem nibbles_append (byte : Byte) : highNibble byte ++ lowNibble byte = byte := by
  revert byte; decide

@[simp] theorem imageAfter_nil (image : Byte) : imageAfter image [] = image := rfl

/-- The image ends at the last byte of the list (R131). -/
@[simp] theorem imageAfter_cons (image y : Byte) (v : List Byte) :
    imageAfter image (y :: v) = imageAfter y v := rfl

/-! ## Feeds -/

@[simp] theorem Feed.answer_cons {α : Type} (x : α) (xs : List α) (o : Option α) (free : α) :
    (Feed.mk (x :: xs) o).answer free = x := rfl

@[simp] theorem Feed.rest_cons {α : Type} (x : α) (xs : List α) (o : Option α) :
    (Feed.mk (x :: xs) o).rest = Feed.mk xs o := rfl

@[simp] theorem Feed.isFree_cons {α : Type} (x : α) (xs : List α) (o : Option α) :
    (Feed.mk (x :: xs) o).isFree = false := rfl

@[simp] theorem Feed.answer_after {α : Type} (x free : α) :
    (Feed.mk [] (some x)).answer free = x := rfl

@[simp] theorem Feed.rest_nil {α : Type} (o : Option α) :
    (Feed.mk [] o).rest = Feed.mk [] o := rfl

@[simp] theorem Feed.isFree_after {α : Type} (x : α) : (Feed.mk [] (some x)).isFree = false := rfl

/-! ## `TX` (R131) -/

/-- `TX` as one update: the image takes the bytes, a failure is recorded when `record`, one event. -/
theorem transmit_eq (v : List Byte) (record : Bool) (s : State) :
    transmit v record s =
      { afterTxAnswer s with
        registerImage := imageAfter s.registerImage v
        initFail := s.initFail || (record && txAnswer s == .fail)
        seq := { s.seq with upc := s.seq.upc + 1 }
        trace := s.trace ++ [.tx s.cfg.addr v busTimeout (txAnswer s)] } := by
  have h : txAnswer { s with registerImage := imageAfter s.registerImage v } = txAnswer s := rfl
  cases record <;> cases ha : txAnswer s <;>
    simp [transmit, memWrite, h, ha, State.emit, State.advance, raiseInitFail, afterTxAnswer]

@[simp] theorem transmit_backlightValue (v : List Byte) (record : Bool) (s : State) :
    (transmit v record s).backlightValue = s.backlightValue :=
  (congrArg State.backlightValue (transmit_eq v record s)).trans rfl
@[simp] theorem transmit_displayFunction (v : List Byte) (record : Bool) (s : State) :
    (transmit v record s).displayFunction = s.displayFunction :=
  (congrArg State.displayFunction (transmit_eq v record s)).trans rfl
@[simp] theorem transmit_displayControl (v : List Byte) (record : Bool) (s : State) :
    (transmit v record s).displayControl = s.displayControl :=
  (congrArg State.displayControl (transmit_eq v record s)).trans rfl
@[simp] theorem transmit_displayMode (v : List Byte) (record : Bool) (s : State) :
    (transmit v record s).displayMode = s.displayMode :=
  (congrArg State.displayMode (transmit_eq v record s)).trans rfl
@[simp] theorem transmit_registerImage (v : List Byte) (record : Bool) (s : State) :
    (transmit v record s).registerImage = imageAfter s.registerImage v :=
  (congrArg State.registerImage (transmit_eq v record s)).trans rfl
@[simp] theorem transmit_initFail (v : List Byte) (record : Bool) (s : State) :
    (transmit v record s).initFail = (s.initFail || (record && txAnswer s == .fail)) :=
  (congrArg State.initFail (transmit_eq v record s)).trans rfl
@[simp] theorem transmit_initDone (v : List Byte) (record : Bool) (s : State) :
    (transmit v record s).initDone = s.initDone :=
  (congrArg State.initDone (transmit_eq v record s)).trans rfl
@[simp] theorem transmit_seq (v : List Byte) (record : Bool) (s : State) :
    (transmit v record s).seq = { s.seq with upc := s.seq.upc + 1 } :=
  (congrArg State.seq (transmit_eq v record s)).trans rfl
@[simp] theorem transmit_cfg (v : List Byte) (record : Bool) (s : State) :
    (transmit v record s).cfg = s.cfg :=
  (congrArg State.cfg (transmit_eq v record s)).trans rfl
@[simp] theorem transmit_done (v : List Byte) (record : Bool) (s : State) :
    (transmit v record s).done = s.done :=
  (congrArg State.done (transmit_eq v record s)).trans rfl
@[simp] theorem transmit_doneStatus (v : List Byte) (record : Bool) (s : State) :
    (transmit v record s).doneStatus = s.doneStatus :=
  (congrArg State.doneStatus (transmit_eq v record s)).trans rfl
@[simp] theorem transmit_trace (v : List Byte) (record : Bool) (s : State) :
    (transmit v record s).trace = s.trace ++ [.tx s.cfg.addr v busTimeout (txAnswer s)] :=
  (congrArg State.trace (transmit_eq v record s)).trans rfl
@[simp] theorem transmit_port (v : List Byte) (record : Bool) (s : State) :
    (transmit v record s).port = s.port :=
  (congrArg State.port (transmit_eq v record s)).trans rfl
@[simp] theorem transmit_tx (v : List Byte) (record : Bool) (s : State) :
    (transmit v record s).tx = s.tx.rest :=
  (congrArg State.tx (transmit_eq v record s)).trans rfl
@[simp] theorem transmit_ready (v : List Byte) (record : Bool) (s : State) :
    (transmit v record s).ready = s.ready :=
  (congrArg State.ready (transmit_eq v record s)).trans rfl
@[simp] theorem transmit_draws (v : List Byte) (record : Bool) (s : State) :
    (transmit v record s).draws = if s.tx.isFree then s.draws + 1 else s.draws :=
  (congrArg State.draws (transmit_eq v record s)).trans rfl
@[simp] theorem transmit_preInit (v : List Byte) (record : Bool) (s : State) :
    (transmit v record s).preInit = s.preInit :=
  (congrArg State.preInit (transmit_eq v record s)).trans rfl

/-! ## `POLL` (R135) -/

/-- `POLL` answered true moves on. -/
theorem poll_true {s : State} (h : readyAnswer s = true) : poll s = (busReady s).advance := by
  simp [poll, h]

/-- `POLL` answered false delays and stays. -/
theorem poll_false {s : State} (h : readyAnswer s = false) :
    poll s = delayService tPoll (busReady s) := by
  simp [poll, h]

@[simp] theorem poll_backlightValue  (s : State) :
    (poll s).backlightValue = s.backlightValue := by
  cases h : readyAnswer s <;> simp [poll, busReady, delayService, h]
@[simp] theorem poll_displayFunction  (s : State) :
    (poll s).displayFunction = s.displayFunction := by
  cases h : readyAnswer s <;> simp [poll, busReady, delayService, h]
@[simp] theorem poll_displayControl  (s : State) :
    (poll s).displayControl = s.displayControl := by
  cases h : readyAnswer s <;> simp [poll, busReady, delayService, h]
@[simp] theorem poll_displayMode  (s : State) :
    (poll s).displayMode = s.displayMode := by
  cases h : readyAnswer s <;> simp [poll, busReady, delayService, h]
@[simp] theorem poll_registerImage  (s : State) :
    (poll s).registerImage = s.registerImage := by
  cases h : readyAnswer s <;> simp [poll, busReady, delayService, h]
@[simp] theorem poll_initFail  (s : State) :
    (poll s).initFail = s.initFail := by
  cases h : readyAnswer s <;> simp [poll, busReady, delayService, h]
@[simp] theorem poll_initDone  (s : State) :
    (poll s).initDone = s.initDone := by
  cases h : readyAnswer s <;> simp [poll, busReady, delayService, h]
@[simp] theorem poll_seq  (s : State) :
    (poll s).seq = if readyAnswer s then { s.seq with upc := s.seq.upc + 1 } else s.seq := by
  cases h : readyAnswer s <;> simp [poll, busReady, delayService, h]
@[simp] theorem poll_cfg  (s : State) :
    (poll s).cfg = s.cfg := by
  cases h : readyAnswer s <;> simp [poll, busReady, delayService, h]
@[simp] theorem poll_done  (s : State) :
    (poll s).done = s.done := by
  cases h : readyAnswer s <;> simp [poll, busReady, delayService, h]
@[simp] theorem poll_doneStatus  (s : State) :
    (poll s).doneStatus = s.doneStatus := by
  cases h : readyAnswer s <;> simp [poll, busReady, delayService, h]
@[simp] theorem poll_trace  (s : State) :
    (poll s).trace = s.trace ++ .ready s.cfg.bus (readyAnswer s) ::
      (if readyAnswer s then [] else [.delay tPoll]) := by
  cases h : readyAnswer s <;> simp [poll, busReady, delayService, h]
@[simp] theorem poll_port  (s : State) :
    (poll s).port = s.port := by
  cases h : readyAnswer s <;> simp [poll, busReady, delayService, h]
@[simp] theorem poll_tx  (s : State) :
    (poll s).tx = s.tx := by
  cases h : readyAnswer s <;> simp [poll, busReady, delayService, h]
@[simp] theorem poll_ready  (s : State) :
    (poll s).ready = s.ready.rest := by
  cases h : readyAnswer s <;> simp [poll, busReady, delayService, h]
@[simp] theorem poll_draws  (s : State) :
    (poll s).draws = if s.ready.isFree then s.draws + 1 else s.draws := by
  cases h : readyAnswer s <;> simp [poll, busReady, delayService, h]
@[simp] theorem poll_preInit  (s : State) :
    (poll s).preInit = s.preInit := by
  cases h : readyAnswer s <;> simp [poll, busReady, delayService, h]

/-! ## `DELAY` (R136) -/

@[simp] theorem delay_backlightValue (n : Nat) (s : State) :
    (delay n s).backlightValue = s.backlightValue := rfl
@[simp] theorem delay_displayFunction (n : Nat) (s : State) :
    (delay n s).displayFunction = s.displayFunction := rfl
@[simp] theorem delay_displayControl (n : Nat) (s : State) :
    (delay n s).displayControl = s.displayControl := rfl
@[simp] theorem delay_displayMode (n : Nat) (s : State) :
    (delay n s).displayMode = s.displayMode := rfl
@[simp] theorem delay_registerImage (n : Nat) (s : State) :
    (delay n s).registerImage = s.registerImage := rfl
@[simp] theorem delay_initFail (n : Nat) (s : State) :
    (delay n s).initFail = s.initFail := rfl
@[simp] theorem delay_initDone (n : Nat) (s : State) :
    (delay n s).initDone = s.initDone := rfl
@[simp] theorem delay_seq (n : Nat) (s : State) :
    (delay n s).seq = { s.seq with upc := s.seq.upc + 1 } := rfl
@[simp] theorem delay_cfg (n : Nat) (s : State) :
    (delay n s).cfg = s.cfg := rfl
@[simp] theorem delay_done (n : Nat) (s : State) :
    (delay n s).done = s.done := rfl
@[simp] theorem delay_doneStatus (n : Nat) (s : State) :
    (delay n s).doneStatus = s.doneStatus := rfl
@[simp] theorem delay_trace (n : Nat) (s : State) :
    (delay n s).trace = s.trace ++ [.delay n] := rfl
@[simp] theorem delay_port (n : Nat) (s : State) :
    (delay n s).port = s.port := rfl
@[simp] theorem delay_tx (n : Nat) (s : State) :
    (delay n s).tx = s.tx := rfl
@[simp] theorem delay_ready (n : Nat) (s : State) :
    (delay n s).ready = s.ready := rfl
@[simp] theorem delay_draws (n : Nat) (s : State) :
    (delay n s).draws = s.draws := rfl
@[simp] theorem delay_preInit (n : Nat) (s : State) :
    (delay n s).preInit = s.preInit := rfl

/-! ## Accept (R141a) -/

@[simp] theorem latch_backlightValue (i : Instr) (s : State) :
    (latch i s).backlightValue = s.backlightValue := rfl
@[simp] theorem latch_displayFunction (i : Instr) (s : State) :
    (latch i s).displayFunction = s.displayFunction := rfl
@[simp] theorem latch_displayControl (i : Instr) (s : State) :
    (latch i s).displayControl = s.displayControl := rfl
@[simp] theorem latch_displayMode (i : Instr) (s : State) :
    (latch i s).displayMode = s.displayMode := rfl
@[simp] theorem latch_registerImage (i : Instr) (s : State) :
    (latch i s).registerImage = s.registerImage := rfl
@[simp] theorem latch_initFail (i : Instr) (s : State) :
    (latch i s).initFail = s.initFail := rfl
@[simp] theorem latch_initDone (i : Instr) (s : State) :
    (latch i s).initDone = s.initDone := rfl
@[simp] theorem latch_seq (i : Instr) (s : State) :
    (latch i s).seq = { busy := true, cmd := i.opcode, a := i.operandA, b := i.operandB, p := i.payload, upc := 0 } := rfl
@[simp] theorem latch_cfg (i : Instr) (s : State) :
    (latch i s).cfg = s.cfg := rfl
@[simp] theorem latch_done (i : Instr) (s : State) :
    (latch i s).done = s.done := rfl
@[simp] theorem latch_doneStatus (i : Instr) (s : State) :
    (latch i s).doneStatus = s.doneStatus := rfl
@[simp] theorem latch_trace (i : Instr) (s : State) :
    (latch i s).trace = s.trace ++ [.accept (encode i).1 (encode i).2] := rfl
@[simp] theorem latch_port (i : Instr) (s : State) :
    (latch i s).port = s.port := rfl
@[simp] theorem latch_tx (i : Instr) (s : State) :
    (latch i s).tx = s.tx := rfl
@[simp] theorem latch_ready (i : Instr) (s : State) :
    (latch i s).ready = s.ready := rfl
@[simp] theorem latch_draws (i : Instr) (s : State) :
    (latch i s).draws = s.draws := rfl
@[simp] theorem latch_preInit (i : Instr) (s : State) :
    (latch i s).preInit = s.preInit := rfl

/-! ## The entries of micro-programs -/

@[simp] theorem runMicroOp_pollOp (s : State) : runMicroOp pollOp s = poll s := rfl

@[simp] theorem runMicroOp_delayOp (n : Nat) (s : State) : runMicroOp (delayOp n) s = delay n s := rfl

@[simp] theorem runMicroOp_updThen (u : State → State) (m : MicroOp) (s : State) :
    runMicroOp (updThen u m) s = runMicroOp m (u s) := rfl

@[simp] theorem runMicroOp_frameOp (byte : State → Byte) (isData : Bit) (s : State) :
    runMicroOp (frameOp byte isData) s =
      transmit (frame (byte s) isData s.backlightValue) false s := rfl

@[simp] theorem runMicroOp_writeRaw (byte : State → Byte) (s : State) :
    runMicroOp (writeRaw byte) s = transmit [byte s] false s := rfl

@[simp] theorem runMicroOp_rawPairOp (nib : State → Nibble) (record : Bool) (s : State) :
    runMicroOp (rawPairOp nib record) s =
      transmit (rawPair (nib s) s.backlightValue) record s := rfl

@[simp] theorem runMicroOp_setCursorOp (col row : Byte) (s : State) :
    runMicroOp (setCursorOp col row) s =
      transmit (frame (ddramInstr s.cfg.k col (rowOffset row s).1) 0 s.backlightValue) false
        (rowOffset row s).2 := rfl

/-- The image a frame leaves (R133). -/
@[simp] theorem imageAfter_frame (image byte : Byte) (isData bl : Bit) :
    imageAfter image (frame byte isData bl) = compose (lowNibble byte) 0 isData bl := rfl

/-- The image a raw pair leaves (R134). -/
@[simp] theorem imageAfter_rawPair (image : Byte) (nib : Nibble) (bl : Bit) :
    imageAfter image (rawPair nib bl) = compose nib 0 0 bl := rfl

/-! ## The moves of the micro-sequencer (R141) -/

/-- The command each instruction runs. -/
def commandOf : Instr → Command
  | .init a b p =>
    { instr := .init a b p, program := initProgram,
      atEnd := fun s => { s with initDone := true }, status := initStatus }
  | .writeByte byte b p => okCommand (.writeByte byte b p) (send (fun _ => byte) 1)
  | .clear a b p => okCommand (.clear a b p) clearProgram
  | .home a b p => okCommand (.home a b p) homeProgram
  | .setCursor col row p => okCommand (.setCursor col row p) [setCursorOp col row, pollOp]
  | .displayOn a b p => okCommand (.displayOn a b p)
      (displayControlProgram fun s => setFlag s.displayControl s.cfg.k.dcDisplayOn)
  | .displayOff a b p => okCommand (.displayOff a b p)
      (displayControlProgram fun s => clearFlag s.displayControl s.cfg.k.dcDisplayOn)
  | .cursorOn a b p => okCommand (.cursorOn a b p)
      (displayControlProgram fun s => setFlag s.displayControl s.cfg.k.dcCursorOn)
  | .cursorOff a b p => okCommand (.cursorOff a b p)
      (displayControlProgram fun s => clearFlag s.displayControl s.cfg.k.dcCursorOn)
  | .blinkOn a b p => okCommand (.blinkOn a b p)
      (displayControlProgram fun s => setFlag s.displayControl s.cfg.k.dcBlinkOn)
  | .blinkOff a b p => okCommand (.blinkOff a b p)
      (displayControlProgram fun s => clearFlag s.displayControl s.cfg.k.dcBlinkOn)
  | .scrollLeft a b p => okCommand (.scrollLeft a b p)
      (send (fun s => s.cfg.k.cursorShift ||| s.cfg.k.shDisplayMove) 0)
  | .scrollRight a b p => okCommand (.scrollRight a b p)
      (send (fun s => s.cfg.k.cursorShift ||| s.cfg.k.shDisplayMove ||| s.cfg.k.shMoveRight) 0)
  | .leftToRight a b p => okCommand (.leftToRight a b p)
      (entryModeProgram fun s => setFlag s.displayMode s.cfg.k.emLeft)
  | .rightToLeft a b p => okCommand (.rightToLeft a b p)
      (entryModeProgram fun s => clearFlag s.displayMode s.cfg.k.emLeft)
  | .autoscrollOn a b p => okCommand (.autoscrollOn a b p)
      (entryModeProgram fun s => setFlag s.displayMode s.cfg.k.emShiftInc)
  | .autoscrollOff a b p => okCommand (.autoscrollOff a b p)
      (entryModeProgram fun s => clearFlag s.displayMode s.cfg.k.emShiftInc)
  | .createChar location b bitmap => okCommand (.createChar location b bitmap)
      (send (fun s => cgramInstr s.cfg.k location) 0 ++ bitmapProgram bitmap)
  | .backlightOn a b p => okCommand (.backlightOn a b p) (backlightProgram 1)
  | .backlightOff a b p => okCommand (.backlightOff a b p) (backlightProgram 0)

/-- Every arm of `exec` runs its command. -/
theorem exec_eq_runCommand (i : Instr) (s : State) : exec i s = runCommand (commandOf i) s := by
  cases i <;> rfl

@[simp] theorem commandOf_instr (i : Instr) : (commandOf i).instr = i := by cases i <;> rfl

/-- What a move that answers a next state is: an acceptance, a micro-operation, or a completion. -/
theorem runCommand_next {c : Command} {s t : State} (h : runCommand c s = .next t) :
    (s.seq.busy = false ∧ ¬ (needsInit c.instr ∧ s.initDone = false ∧ s.preInit = .refuse) ∧
      t = latch c.instr s) ∨
    (s.seq.busy = true ∧ ∃ m, c.program[s.seq.upc.toNat]? = some m ∧ t = runMicroOp m s) ∨
    (s.seq.busy = true ∧ s.seq.upc.toNat = c.program.length ∧ t = complete c s) := by
  unfold runCommand at h
  cases hb : s.seq.busy with
  | false =>
    rw [hb] at h
    simp only [Bool.false_eq_true, if_false, accept] at h
    split at h
    · cases h
    · exact .inl ⟨rfl, by assumption, by cases h; rfl⟩
  | true =>
    rw [hb, if_pos rfl] at h
    split at h
    · exact .inr (.inl ⟨rfl, _, by assumption, by cases h; rfl⟩)
    · split at h
      · exact .inr (.inr ⟨rfl, by assumption, by cases h; rfl⟩)
      · cases h

/-- The micro-operation at `upc` runs. -/
theorem runCommand_at {c : Command} {s : State} {m : MicroOp} (hb : s.seq.busy = true)
    (hm : c.program[s.seq.upc.toNat]? = some m) : runCommand c s = .next (runMicroOp m s) := by
  simp [runCommand, hb, hm]

/-- At the end of its micro-program a command completes. -/
theorem runCommand_end {c : Command} {s : State} (hb : s.seq.busy = true)
    (hu : s.seq.upc.toNat = c.program.length) : runCommand c s = .next (complete c s) := by
  simp [runCommand, hb, hu]

end Sys2Proof.Machine
end

