-- ==== Sys2Proof/Laws/PerInstr.lean ====
section
/-! SUPPORT. Statements made for every instruction, one lemma per constructor of `Instr`. -/

namespace Sys2Proof.Laws.EncodedWord

/-- The opcode is an assigned one (R111), and the encoded word's fields are those of the command (R107). -/
def Statement (i : Instr) : Prop :=
  (0x01 ≤ i.opcode ∧ i.opcode ≤ 0x14) ∧
  (opField (encode i).1 = i.opcode ∧ aField (encode i).1 = i.operandA ∧
    bField (encode i).1 = i.operandB)

/-- The assigned opcodes are 0x01 to 0x14 (R110, R111). -/
theorem opcode_range (i : Instr) : 0x01 ≤ i.opcode ∧ i.opcode ≤ 0x14 := by
  cases i <;> exact ⟨by simp only [Instr.opcode]; decide, by simp only [Instr.opcode]; decide⟩

/-- The fields of an encoded word, for every command. -/
theorem encode_fields (i : Instr) :
    opField (encode i).1 = i.opcode ∧ aField (encode i).1 = i.operandA ∧
      bField (encode i).1 = i.operandB := by
  simp [encode]

theorem init (a b : Byte) (p : Payload) : Statement (.init a b p) :=
  ⟨opcode_range _, encode_fields _⟩

theorem writeByte (byte b : Byte) (p : Payload) : Statement (.writeByte byte b p) :=
  ⟨opcode_range _, encode_fields _⟩

theorem clear (a b : Byte) (p : Payload) : Statement (.clear a b p) :=
  ⟨opcode_range _, encode_fields _⟩

theorem home (a b : Byte) (p : Payload) : Statement (.home a b p) :=
  ⟨opcode_range _, encode_fields _⟩

theorem setCursor (col row : Byte) (p : Payload) : Statement (.setCursor col row p) :=
  ⟨opcode_range _, encode_fields _⟩

theorem displayOn (a b : Byte) (p : Payload) : Statement (.displayOn a b p) :=
  ⟨opcode_range _, encode_fields _⟩

theorem displayOff (a b : Byte) (p : Payload) : Statement (.displayOff a b p) :=
  ⟨opcode_range _, encode_fields _⟩

theorem cursorOn (a b : Byte) (p : Payload) : Statement (.cursorOn a b p) :=
  ⟨opcode_range _, encode_fields _⟩

theorem cursorOff (a b : Byte) (p : Payload) : Statement (.cursorOff a b p) :=
  ⟨opcode_range _, encode_fields _⟩

theorem blinkOn (a b : Byte) (p : Payload) : Statement (.blinkOn a b p) :=
  ⟨opcode_range _, encode_fields _⟩

theorem blinkOff (a b : Byte) (p : Payload) : Statement (.blinkOff a b p) :=
  ⟨opcode_range _, encode_fields _⟩

theorem scrollLeft (a b : Byte) (p : Payload) : Statement (.scrollLeft a b p) :=
  ⟨opcode_range _, encode_fields _⟩

theorem scrollRight (a b : Byte) (p : Payload) : Statement (.scrollRight a b p) :=
  ⟨opcode_range _, encode_fields _⟩

theorem leftToRight (a b : Byte) (p : Payload) : Statement (.leftToRight a b p) :=
  ⟨opcode_range _, encode_fields _⟩

theorem rightToLeft (a b : Byte) (p : Payload) : Statement (.rightToLeft a b p) :=
  ⟨opcode_range _, encode_fields _⟩

theorem autoscrollOn (a b : Byte) (p : Payload) : Statement (.autoscrollOn a b p) :=
  ⟨opcode_range _, encode_fields _⟩

theorem autoscrollOff (a b : Byte) (p : Payload) : Statement (.autoscrollOff a b p) :=
  ⟨opcode_range _, encode_fields _⟩

theorem createChar (location b : Byte) (bitmap : List Byte) : Statement (.createChar location b bitmap) :=
  ⟨opcode_range _, encode_fields _⟩

theorem backlightOn (a b : Byte) (p : Payload) : Statement (.backlightOn a b p) :=
  ⟨opcode_range _, encode_fields _⟩

theorem backlightOff (a b : Byte) (p : Payload) : Statement (.backlightOff a b p) :=
  ⟨opcode_range _, encode_fields _⟩

end Sys2Proof.Laws.EncodedWord
end

