-- ==== Sys2Proof/Laws/Step.lean ====
section
/-! SUPPORT. What one step can be (40_transport.md R141): every invariant is derived from
`step_cases`. -/

namespace Sys2Proof.Machine

theorem toOption_eq_some {e : Except DecodeError Instr} {i : Instr} :
    e.toOption = some i ↔ e = .ok i := by
  cases e <;> simp [Except.toOption]

@[simp] theorem latchedInstr_lowerDone (s : State) : latchedInstr (lowerDone s) = latchedInstr s := rfl

/-- While busy the latched command is fetched (R105). -/
theorem fetch_busy {s : State} {i : Instr} (hb : s.seq.busy = true) (hi : latchedInstr s = some i) :
    fetch s = .command i s := by
  have := toOption_eq_some.mp hi
  simp [fetch, hb, this]

/-- While idle the presented command is fetched and leaves the port (R105). -/
theorem fetch_idle {s : State} {i : Instr} {w : CmdWord} {p : Payload}
    {rest : List (CmdWord × Payload)} (hb : s.seq.busy = false) (hp : s.port = (w, p) :: rest)
    (hi : decode w p = .ok i) : fetch s = .command i (popPort s) := by
  simp [fetch, hb, hp, hi]

@[simp] theorem latchedInstr_popPort (s : State) : latchedInstr (popPort s) = latchedInstr s := rfl

/-- While busy a step is the next move of the latched command. -/
theorem step_busy {s : State} {i : Instr} (hb : s.seq.busy = true) (hi : latchedInstr s = some i) :
    step s = exec i (lowerDone s) := by
  have h : fetch (lowerDone s) = .command i (lowerDone s) := fetch_busy hb hi
  simp [step, h]

/-- While idle a step is the first move of the presented command. -/
theorem step_idle {s : State} {i : Instr} {w : CmdWord} {p : Payload}
    {rest : List (CmdWord × Payload)} (hb : s.seq.busy = false) (hp : s.port = (w, p) :: rest)
    (hi : decode w p = .ok i) : step s = exec i (popPort (lowerDone s)) := by
  have h : fetch (lowerDone s) = .command i (popPort (lowerDone s)) := fetch_idle hb hp hi
  simp [step, h]

/-- Everything a step that answers a next state can be: nothing presented, an acceptance, a
micro-operation of the latched command, or its completion. -/
theorem step_cases {s t : State} (h : step s = .next t) :
    (s.seq.busy = false ∧ s.port = [] ∧ t = lowerDone s) ∨
    (∃ w p rest i, s.seq.busy = false ∧ s.port = (w, p) :: rest ∧ decode w p = .ok i ∧
      t = latch i (popPort (lowerDone s))) ∨
    (∃ i m, s.seq.busy = true ∧ latchedInstr s = some i ∧
      (commandOf i).program[s.seq.upc.toNat]? = some m ∧ t = runMicroOp m (lowerDone s)) ∨
    (∃ i, s.seq.busy = true ∧ latchedInstr s = some i ∧
      s.seq.upc.toNat = (commandOf i).program.length ∧ t = complete (commandOf i) (lowerDone s)) := by
  cases hb : s.seq.busy with
  | true =>
    cases hi : latchedInstr s with
    | none =>
      unfold latchedInstr at hi
      unfold step fetch at h
      cases hd : decode (packWord s.seq.cmd s.seq.a s.seq.b) s.seq.p with
      | ok i => rw [hd] at hi; cases hi
      | error e => cases e; simp [hb, hd] at h
    | some i =>
      rw [step_busy hb hi, exec_eq_runCommand] at h
      rcases runCommand_next h with ⟨hf, -⟩ | ⟨-, m, hm, ht⟩ | ⟨-, hu, ht⟩
      · simp [hb] at hf
      · exact .inr (.inr (.inl ⟨i, m, rfl, rfl, hm, ht⟩))
      · exact .inr (.inr (.inr ⟨i, rfl, rfl, hu, ht⟩))
  | false =>
    cases hp : s.port with
    | nil =>
      have : fetch (lowerDone s) = .nothing := by simp [fetch, hb, hp]
      simp only [step, this] at h
      exact .inl ⟨rfl, rfl, by cases h; rfl⟩
    | cons wp rest =>
      obtain ⟨w, p⟩ := wp
      cases hd : decode w p with
      | error e =>
        cases e
        unfold step fetch at h
        simp [hb, hp, hd] at h
      | ok i =>
        rw [step_idle hb hp hd, exec_eq_runCommand] at h
        rcases runCommand_next h with ⟨-, -, ht⟩ | ⟨hf, -⟩ | ⟨hf, -⟩
        · exact .inr (.inl ⟨w, p, rest, i, rfl, rfl, hd, by simpa using ht⟩)
        · simp [hb] at hf
        · simp [hb] at hf

/-! ## The latched command -/

/-- The latched opcode is the command's, and the command is well-formed (R30). -/
theorem latchedInstr_legal {s : State} {i : Instr} (h : latchedInstr s = some i) :
    s.seq.cmd = i.opcode ∧ WellFormed i = true := by
  have h := toOption_eq_some.mp h
  unfold decode at h
  simp only [opField_packWord] at h
  split at h <;> cases h <;> simp_all [Instr.opcode, WellFormed, unpackBitmap, bitmapRows]

/-- The latched command depends on the latches alone. -/
theorem latchedInstr_congr {s t : State} (hc : t.seq.cmd = s.seq.cmd) (ha : t.seq.a = s.seq.a)
    (hb : t.seq.b = s.seq.b) (hp : t.seq.p = s.seq.p) : latchedInstr t = latchedInstr s := by
  simp [latchedInstr, hc, ha, hb, hp]

/-- A well-formed bitmap is its eight rows (R234). -/
theorem bitmap_rows {location b : Byte} {bitmap : List Byte}
    (h : WellFormed (.createChar location b bitmap) = true) :
    ∃ r0 r1 r2 r3 r4 r5 r6 r7, bitmap = [r0, r1, r2, r3, r4, r5, r6, r7] := by
  simp only [WellFormed, bitmapRows, beq_iff_eq] at h
  match bitmap, h with
  | [r0, r1, r2, r3, r4, r5, r6, r7], _ => exact ⟨r0, r1, r2, r3, r4, r5, r6, r7, rfl⟩

/-- The lengths of R142 are those of the micro-programs. -/
theorem program_length {i : Instr} (h : WellFormed i = true) :
    (commandOf i).program.length = programLength i := by
  cases i
  case createChar location b bitmap =>
    obtain ⟨r0, r1, r2, r3, r4, r5, r6, r7, rfl⟩ := bitmap_rows h
    rfl
  all_goals rfl

/-- `Moves` from the micro-program, entry by entry, and the completion. -/
theorem moves_of_program {i : Instr} {s : State} {ts : List State}
    (hl : ts.length = (commandOf i).program.length + 1)
    (hm : ∀ (k : Nat) (m : MicroOp), (commandOf i).program[k]? = some m →
      ts[k]? = some (runMicroOp m s))
    (he : ts[(commandOf i).program.length]? = some (complete (commandOf i) s)) : Moves i s ts := by
  intro hb k t ht hu
  rw [exec_eq_runCommand]
  cases hk : (commandOf i).program[k]? with
  | some m =>
    rw [runCommand_at hb (by rw [hu]; exact hk)]
    rw [hm k m hk] at ht
    cases ht
    rfl
  | none =>
    have h1 := List.getElem?_eq_none_iff.mp hk
    have h2 := (List.getElem?_eq_some_iff.mp ht).1
    obtain rfl : k = (commandOf i).program.length := by omega
    rw [runCommand_end hb hu]
    rw [he] at ht
    cases ht
    rfl

/-! ## The order of events -/

/-- The phase after more events. -/
theorem phaseOf_append (tr es : List Event) :
    phaseOf (tr ++ es) = (phaseOf tr).bind fun p => es.foldlM Phase.next p := by
  simp [phaseOf, List.foldlM_append]

end Sys2Proof.Machine
end

