-- ==== Sys2Proof/Tests/Slice0.lean ====
section
/-! SUPPORT. The model's own tests. Expected values are those of 95_test_vectors.md and of the examples in
the rules; "2.7" and the like are that file's tables. After them the witnesses: for each statement with
hypotheses, a concrete case that meets all of them. -/

namespace Sys2Proof.Tests

open Sys2Proof.Machine

/-! ## Helpers -/

/-- The next state, if there is one. -/
def nextOf (o : Host.Outcome State Fault Refusal) : Option State :=
  match o with
  | .next t => some t
  | .fault _ => none
  | .refused _ => none

/-- The refusal, if there is one. -/
def refusalOf (o : Host.Outcome State Fault Refusal) : Option Refusal :=
  match o with
  | .next _ => none
  | .fault _ => none
  | .refused r => some r

theorem exists_next {o : Host.Outcome State Fault Refusal} (h : (nextOf o).isSome = true) :
    ∃ t, o = .next t := by
  cases o <;> simp_all [nextOf]

/-- Idle after a successful `INIT` of a two-row display (R176), every answer good from here on. -/
def idle : State :=
  { State.reset with
    displayFunction := 0x08, displayControl := 0x04, displayMode := 0x02, registerImage := 0x20,
    initDone := true, tx := ⟨[], some .ok⟩, ready := ⟨[], some true⟩ }

/-- The same block with the word `w` and payload `p` latched, at `upc`. -/
def executing (w : CmdWord) (p : Payload) (upc : BitVec 6) (s : State) : State :=
  { s with seq := { busy := true, cmd := opField w, a := aField w, b := bField w, p := p, upc := upc } }

/-- The same block with a command presented. -/
def presented (w : CmdWord) (p : Payload) (s : State) : State := { s with port := [(w, p)] }

/-- The byte lists transmitted by one step. -/
def sentBy (s : State) : Option (List (List Byte)) := (nextOf (step s)).map fun t => txLists t.trace

/-- `display_control` after one step, and the byte lists transmitted. -/
def controlAfter (w : CmdWord) (dc : Byte) : Option (Byte × List (List Byte)) :=
  (nextOf (step (executing w 0 0 { idle with displayControl := dc }))).map fun t =>
    (t.displayControl, txLists t.trace)

/-- `display_mode` after one step, and the byte lists transmitted. -/
def modeAfter (w : CmdWord) (dm : Byte) : Option (Byte × List (List Byte)) :=
  (nextOf (step (executing w 0 0 { idle with displayMode := dm }))).map fun t =>
    (t.displayMode, txLists t.trace)

/-- `register_image`, `backlight_value` and the byte lists after one step of a backlight command. -/
def backlightAfter (w : CmdWord) (image : Byte) (bl : Bit) :
    Option (Byte × Bit × List (List Byte)) :=
  (nextOf (step (executing w 0 0 { idle with registerImage := image, backlightValue := bl }))).map
    fun t => (t.registerImage, t.backlightValue, txLists t.trace)

/-- The frame of `SET_CURSOR` on a display of `rows` rows. -/
def cursorFrame (rows : Byte) (w : CmdWord) : Option (List (List Byte)) :=
  sentBy (executing w 0 0 { idle with cfg := { idle.cfg with rows := rows } })

/-! ## WellFormed smoke -/

theorem test_wellFormed_refuses_short_bitmap :
    WellFormed (.createChar 1 0 [0, 1, 2, 3, 4, 5, 6]) = false := by decide

theorem test_wellFormed_refuses_long_bitmap :
    WellFormed (.createChar 1 0 [0, 1, 2, 3, 4, 5, 6, 7, 8]) = false := by decide

/-! ## Decoding (2.12 and the table of R110), one word for each constructor -/

theorem test_decode_init : decode 0x01FFFF 7 = .ok (.init 0xFF 0xFF 7) := by decide
theorem test_decode_writeByte : decode 0x0248AB 7 = .ok (.writeByte 0x48 0xAB 7) := by decide
theorem test_decode_clear : decode 0x030102 7 = .ok (.clear 1 2 7) := by decide
theorem test_decode_home : decode 0x040102 7 = .ok (.home 1 2 7) := by decide
theorem test_decode_setCursor : decode 0x050002 7 = .ok (.setCursor 0 2 7) := by decide
theorem test_decode_displayOn : decode 0x060102 7 = .ok (.displayOn 1 2 7) := by decide
theorem test_decode_displayOff : decode 0x070102 7 = .ok (.displayOff 1 2 7) := by decide
theorem test_decode_cursorOn : decode 0x080102 7 = .ok (.cursorOn 1 2 7) := by decide
theorem test_decode_cursorOff : decode 0x090102 7 = .ok (.cursorOff 1 2 7) := by decide
theorem test_decode_blinkOn : decode 0x0A0102 7 = .ok (.blinkOn 1 2 7) := by decide
theorem test_decode_blinkOff : decode 0x0B0102 7 = .ok (.blinkOff 1 2 7) := by decide
theorem test_decode_scrollLeft : decode 0x0C0102 7 = .ok (.scrollLeft 1 2 7) := by decide
theorem test_decode_scrollRight : decode 0x0D0102 7 = .ok (.scrollRight 1 2 7) := by decide
theorem test_decode_leftToRight : decode 0x0E0102 7 = .ok (.leftToRight 1 2 7) := by decide
theorem test_decode_rightToLeft : decode 0x0F0102 7 = .ok (.rightToLeft 1 2 7) := by decide
theorem test_decode_autoscrollOn : decode 0x100102 7 = .ok (.autoscrollOn 1 2 7) := by decide
theorem test_decode_autoscrollOff : decode 0x110102 7 = .ok (.autoscrollOff 1 2 7) := by decide
theorem test_decode_createChar : decode 0x120900 0x0000040E1F1F0A00 =
    .ok (.createChar 9 0 [0x00, 0x0A, 0x1F, 0x1F, 0x0E, 0x04, 0x00, 0x00]) := by decide
theorem test_decode_backlightOn : decode 0x130102 7 = .ok (.backlightOn 1 2 7) := by decide
theorem test_decode_backlightOff : decode 0x140000 7 = .ok (.backlightOff 0 0 7) := by decide
theorem test_decode_reserved : decode 0x000000 0 = .error (.reservedOpcode 0x00) ∧
    decode 0x150000 0 = .error (.reservedOpcode 0x15) ∧
    decode 0xFF0000 0 = .error (.reservedOpcode 0xFF) := by decide

/-- The payload above the word in the table's numbering. -/
theorem test_decodeTableWord :
    decodeTableWord 24 0x0248AB = some (.writeByte 0x48 0xAB 0) ∧
    decodeTableWord 88 0x0000040E1F1F0A00120900 =
      some (.createChar 9 0 [0x00, 0x0A, 0x1F, 0x1F, 0x0E, 0x04, 0x00, 0x00]) ∧
    decodeTableWord 24 0x150000 = none := by decide

/-! ## The expander byte and the frames (R130, 2.1 to 2.4) -/

theorem test_compose : compose 0xF 1 1 1 = 0xFD ∧ compose 0x4 1 1 0 = 0x45 := by decide

theorem test_frame_hi_first : frame 0x48 1 0 = [0x45, 0x41, 0x85, 0x81] ∧
    frame 0xFF 1 1 = [0xFD, 0xF9, 0xFD, 0xF9] ∧ frame 0x28 0 0 = [0x24, 0x20, 0x84, 0x80] := by
  decide

theorem test_rawPair : rawPair nibSelect8 0 = [0x34, 0x30] ∧
    rawPair nibCommit4Default 0 = [0x24, 0x20] := by decide

/-! ## One step of each command -/

/-- 2.13: accepted only when idle; the word and payload are latched and recorded (R30, R62). -/
theorem test_accept : (nextOf (step (presented 0x120900 0x0000040E1F1F0A00 idle))).map
    (fun t => (t.seq.busy, t.seq.cmd, t.seq.a, t.seq.upc, t.trace)) =
    some (true, 0x12, 0x09, 0, [.accept 0x120900 0x0000040E1F1F0A00]) := by decide

/-- 2.13: the reserved opcode of a presented word is refused. -/
theorem test_reserved_refused :
    refusalOf (step (presented 0x150000 0 idle)) = some (.reservedOpcode 0x15) := by decide

/-- 2.13: with the strict treatment a command before `INIT` is refused. -/
theorem test_before_init_refused :
    refusalOf (step (presented 0x024800 0 { State.reset with preInit := .refuse })) =
      some .beforeInit := by decide

/-- R161, R162 on a one-row display with the tall font (2.5), from dirty registers. -/
theorem test_init_step1 :
    (nextOf (step (executing 0x010000 0 0
      { idle with
        backlightValue := 1, displayMode := 3, initFail := true,
        cfg := { idle.cfg with rows := 1, font10 := true } }))).map
      (fun t => (t.backlightValue, t.displayFunction, t.displayMode, t.registerImage, t.initFail)) =
    some (0, 0x04, 0, 0, false) := by decide

/-- R165 and 2.6: a failed select pair is recorded and the sequence goes on. -/
theorem test_init_select_failure :
    (nextOf (step (executing 0x010000 0 3 { idle with tx := ⟨[.fail], some .ok⟩ }))).map
      (fun t => (t.initFail, t.seq.upc, t.trace)) =
    some (true, 4, [.tx 0x27 [0x34, 0x30] 100 .fail]) := by decide

theorem test_writeByte : sentBy (executing 0x024800 0 0 idle) = some [[0x45, 0x41, 0x85, 0x81]] := by
  decide

/-- R253: the backlight is mirrored into every byte. -/
theorem test_writeByte_backlight :
    sentBy (executing 0x024800 0 0 { idle with backlightValue := 1 }) =
      some [[0x4D, 0x49, 0x8D, 0x89]] := by decide

theorem test_clear : sentBy (executing 0x030000 0 0 idle) = some [[0x04, 0x00, 0x14, 0x10]] := by
  decide

theorem test_clear_settles :
    (nextOf (step (executing 0x030000 0 2 idle))).map (fun t => t.trace) = some [.delay 2] := by
  decide

theorem test_home : sentBy (executing 0x040000 0 0 idle) = some [[0x04, 0x00, 0x24, 0x20]] := by
  decide

/-- 2.8: a row equal to the row count is not clamped, a larger one is. -/
theorem test_setCursor_boundary :
    cursorFrame 2 0x050002 = some [[0x94, 0x90, 0x44, 0x40]] ∧
    cursorFrame 2 0x050003 = some [[0xC4, 0xC0, 0x04, 0x00]] := by decide

/-- 2.8: the column is added modulo 256. -/
theorem test_setCursor_wraps :
    cursorFrame 2 0x05FF01 = some [[0xB4, 0xB0, 0xF4, 0xF0]] ∧
    cursorFrame 4 0x051303 = some [[0xE4, 0xE0, 0x74, 0x70]] := by decide

theorem test_displayOn : controlAfter 0x060000 0x03 = some (0x07, [[0x04, 0x00, 0xF4, 0xF0]]) := by
  decide
theorem test_displayOff : controlAfter 0x070000 0x07 = some (0x03, [[0x04, 0x00, 0xB4, 0xB0]]) := by
  decide
theorem test_cursorOn : controlAfter 0x080000 0x04 = some (0x06, [[0x04, 0x00, 0xE4, 0xE0]]) := by
  decide
theorem test_cursorOff : controlAfter 0x090000 0x07 = some (0x05, [[0x04, 0x00, 0xD4, 0xD0]]) := by
  decide
theorem test_blinkOn : controlAfter 0x0A0000 0x06 = some (0x07, [[0x04, 0x00, 0xF4, 0xF0]]) := by
  decide
theorem test_blinkOff : controlAfter 0x0B0000 0x05 = some (0x04, [[0x04, 0x00, 0xC4, 0xC0]]) := by
  decide
theorem test_scrollLeft : sentBy (executing 0x0C0000 0 0 idle) = some [[0x14, 0x10, 0x84, 0x80]] := by
  decide
theorem test_scrollRight :
    sentBy (executing 0x0D0000 0 0 idle) = some [[0x14, 0x10, 0xC4, 0xC0]] := by decide
theorem test_leftToRight : modeAfter 0x0E0000 0x01 = some (0x03, [[0x04, 0x00, 0x74, 0x70]]) := by
  decide
theorem test_rightToLeft : modeAfter 0x0F0000 0x02 = some (0x00, [[0x04, 0x00, 0x44, 0x40]]) := by
  decide
theorem test_autoscrollOn : modeAfter 0x100000 0x00 = some (0x01, [[0x04, 0x00, 0x54, 0x50]]) := by
  decide
theorem test_autoscrollOff : modeAfter 0x110000 0x03 = some (0x02, [[0x04, 0x00, 0x64, 0x60]]) := by
  decide

/-- 2.9: location 9 is masked to 1. -/
theorem test_createChar_masks :
    sentBy (executing 0x120900 0x0000040E1F1F0A00 0 idle) = some [[0x44, 0x40, 0x84, 0x80]] := by
  decide

/-- Program P3: row 1 of the bitmap is the second least significant byte, sent as data. -/
theorem test_createChar_row :
    sentBy (executing 0x120900 0x0000040E1F1F0A00 4 idle) = some [[0x05, 0x01, 0xA5, 0xA1]] := by
  decide

theorem test_backlightOn : backlightAfter 0x130000 0x81 0 = some (0x89, 1, [[0x89]]) := by decide
theorem test_backlightOff : backlightAfter 0x140000 0x18 1 = some (0x10, 0, [[0x10]]) := by decide

/-- R135, 2.11: a poll answered false delays and runs again. -/
theorem test_poll_false :
    (nextOf (step (executing 0x024800 0 1 { idle with ready := ⟨[false], some true⟩ }))).map
      (fun t => (t.seq.upc, t.trace)) = some (1, [.ready 0 false, .delay 1]) := by decide

/-- R106: completion. -/
theorem test_complete :
    (nextOf (step (executing 0x024800 0 2 idle))).map
      (fun t => (t.seq.busy, t.done, t.doneStatus, t.trace)) =
    some (false, true, .ok, [.done 0x02 .ok]) := by decide

/-! ## The host-side operations (2.14) -/

theorem test_printString : printString [0x48, 0x49, 0x00, 0x4A] =
    [.writeByte 0x48 0 0, .writeByte 0x49 0 0] := by decide

theorem test_printf_negative : printf ⟨32, 11⟩ [0x25, 0x64] [.int 0xFFFFFFFB] =
    .ok [.writeByte 0x2D 0 0, .writeByte 0x35 0 0] := by decide

/-- `"%5d"` swallows `%5` and emits the literal `d`. -/
theorem test_printf_unknown_specifier : printf ⟨32, 11⟩ [0x25, 0x35, 0x64] [.int 7] =
    .ok [.writeByte 0x64 0 0] := by decide

theorem test_format : format 8 255 16 = .ok [0x46, 0x46] ∧ format 8 255 8 = .ok [0x33, 0x37, 0x37] ∧
    format 8 0 10 = .ok [0x30] ∧ format 8 0xBEEF 16 = .ok [0x42, 0x45, 0x45, 0x46] := by decide

/-! ## Witnesses -/

/-- A state in the middle of a run that meets the invariant: `WRITE_BYTE 0x48` has sent its frame with the
backlight on and waits for the bus. -/
def midRun : State :=
  { executing 0x024800 0 1 idle with
    backlightValue := 1, registerImage := 0x89,
    trace := [.accept 0x024800 0, .tx 0x27 [0x4D, 0x49, 0x8D, 0x89] 100 .ok] }

theorem midRun_inv : Inv midRun where
  seqLegal := fun _ => ⟨.writeByte 0x48 0 0, by decide, by decide⟩
  controlBits := by decide
  modeBits := by decide
  functionBits := by decide
  rwLow := by decide
  backlightMirrored := by decide
  darkDuringInit := by decide
  eventsLegal := by
    intro e he
    simp only [midRun, List.mem_cons, List.not_mem_nil, or_false] at he
    rcases he with rfl | rfl
    · trivial
    · simp only [LegalEvent]; decide
  orderKept := by decide

theorem idle_inv : Inv idle where
  seqLegal := fun h => by cases h
  controlBits := by decide
  modeBits := by decide
  functionBits := by decide
  rwLow := by decide
  backlightMirrored := by decide
  darkDuringInit := by decide
  eventsLegal := fun e he => by cases he
  orderKept := by decide

/-- An idle state that meets the invariant, with a word presented. -/
theorem presented_inv (w : CmdWord) : Inv (presented w 0 idle) :=
  ⟨fun h => (by cases h), idle_inv.2, idle_inv.3, idle_inv.4, idle_inv.5, idle_inv.6,
    fun h => (by cases h), idle_inv.8, idle_inv.9⟩

/-- The first and the last move of a command: `upc` 0 and `upc` at the length. -/
def FirstAndLast (w : CmdWord) (p : Payload) (ts : List State) : Prop :=
  (∃ t, ts[0]? = some t ∧ (executing w p 0 idle).seq.busy = true ∧
    (executing w p 0 idle).seq.upc.toNat = 0) ∧
  ∃ t u, ts[ts.length - 1]? = some t ∧ (executing w p u idle).seq.busy = true ∧
    (executing w p u idle).seq.upc.toNat = ts.length - 1

theorem witness_EncodedCommandDecodesToItself :
    WellFormed (.createChar 9 0xFF [0x00, 0x0A, 0x1F, 0x1F, 0x0E, 0x04, 0x00, 0xFF]) = true := by decide

theorem witness_DecodedWordEncodesBack :
    decode 0x14FFFF 0xFFFFFFFFFFFFFFFF = .ok (.backlightOff 0xFF 0xFF 0xFFFFFFFFFFFFFFFF) := by decide

theorem witness_ReservedOpcodesRefused :
    (opField 0x00FFFF = 0x00 ∧ 0x15 ≤ opField 0x150000 ∧ 0x15 ≤ opField 0xFFFFFF) ∧
    (presented 0x150000 3 idle).seq.busy = false ∧
      (presented 0x150000 3 idle).port = [(0x150000, 3)] :=
  ⟨by decide, rfl, rfl⟩

theorem witness_UnusedFieldsAreIgnored :
    (0x01 ≤ opField 0x010000 ∧ opField 0x010000 ≤ 0x14) ∧
    (0x01 ≤ opField 0x14FFFF ∧ opField 0x14FFFF ≤ 0x14) ∧ midRun.seq.busy = true := by
  decide

theorem witness_StepRunsDecodedCommand :
    (midRun.seq.busy = true ∧ decode (packWord midRun.seq.cmd midRun.seq.a midRun.seq.b) midRun.seq.p =
      .ok (.writeByte 0x48 0 0)) ∧
    (presented 0x050002 0 idle).seq.busy = false ∧ (presented 0x050002 0 idle).port = [(0x050002, 0)] ∧
      decode 0x050002 0 = .ok (.setCursor 0 2 0) := by
  decide

theorem witness_CommandPortHandshake :
    ((presented 0x050002 0 idle).cmdReady = true ∧
      (presented 0x050002 0 idle).port = [(0x050002, 0)] ∧
      decode 0x050002 0 = .ok (.setCursor 0 2 0) ∧ (presented 0x050002 0 idle).initDone = true) ∧
    ((presented 0x010000 0 State.reset).cmdReady = true ∧
      decode 0x010000 0 = .ok (.init 0 0 0) ∧ (Instr.init 0 0 0).opcode = 0x01) ∧
    (idle.cmdReady = true ∧ idle.port = []) ∧
    (midRun.cmdReady = false ∧ (nextOf (step midRun)).isSome = true) := by
  decide

theorem witness_StrictModelRefusesBeforeInit :
    ∀ wi ∈ ([(0x024800, .writeByte 0x48 0 0), (0x010000, .init 0 0 0)] : List (CmdWord × Instr)),
      let s := presented wi.1 0 { State.reset with preInit := .refuse }
      s.preInit = .refuse ∧ s.initDone = false ∧ s.seq.busy = false ∧ s.port = [(wi.1, 0)] ∧
        decode wi.1 0 = .ok wi.2 := by
  decide

theorem witness_OnlyPresentedCommandsAreRefused : Inv midRun ∧ Inv (presented 0x150000 0 idle) :=
  ⟨midRun_inv, presented_inv _⟩

theorem witness_PastTheEndIsStuck :
    WellFormed (.writeByte 0x48 0 0) = true ∧ (executing 0x024800 0 3 idle).seq.busy = true ∧
      programLength (.writeByte 0x48 0 0) < (executing 0x024800 0 3 idle).seq.upc.toNat := by
  decide

theorem witness_ControllerLatchesWhatIsSent : (expanderFields midRun.registerImage).en = 0 := by decide

theorem witness_PollMicroOperation :
    readyAnswer idle = true ∧ readyAnswer { idle with ready := ⟨[false], none⟩ } = false := by decide

theorem witness_ServiceAnswersComeFromTheFeeds :
    (∃ st rest, ({ idle with tx := ⟨[.fail], none⟩ } : State).tx.script = st :: rest) ∧
    (∃ r rest, ({ idle with ready := ⟨[false], none⟩ } : State).ready.script = r :: rest) ∧
    (idle.tx.script = [] ∧ idle.tx.after = some .ok) ∧
    (idle.ready.script = [] ∧ idle.ready.after = some true) ∧
    (State.reset.tx.script = [] ∧ State.reset.tx.after = none) ∧
    (State.reset.ready.script = [] ∧ State.reset.ready.after = none) :=
  ⟨⟨_, _, rfl⟩, ⟨_, _, rfl⟩, ⟨rfl, rfl⟩, ⟨rfl, rfl⟩, ⟨rfl, rfl⟩, ⟨rfl, rfl⟩⟩

theorem witness_IdleBlockAcceptsEveryCommand :
    (WellFormed (.setCursor 0 2 0) = true ∧ idle.seq.busy = false ∧ idle.initDone = true) ∧
    (WellFormed (.init 0 0 0) = true ∧ State.reset.seq.busy = false ∧
      (Instr.init 0 0 0).opcode = 0x01) ∧
    (WellFormed (.writeByte 0x48 0 0) = true ∧ State.reset.seq.busy = false ∧
      State.reset.preInit = .run) := by
  decide

theorem witness_WriteByteSendsItsByte : FirstAndLast 0x024800 0
    (sendMoves 0x48 1 idle idle ++ [completed 0x02 .ok idle]) :=
  ⟨⟨_, rfl, rfl, rfl⟩, _, 2, rfl, rfl, rfl⟩

theorem witness_ClearAndHomeSendAndSettle :
    FirstAndLast 0x030000 0
      (sendMoves idle.cfg.k.clearDisplay 0 idle idle ++ [delay 2 idle, completed 0x03 .ok idle]) ∧
    FirstAndLast 0x040000 0
      (sendMoves idle.cfg.k.returnHome 0 idle idle ++ [delay 2 idle, completed 0x04 .ok idle]) :=
  ⟨⟨⟨_, rfl, rfl, rfl⟩, _, 3, rfl, rfl, rfl⟩, ⟨_, rfl, rfl, rfl⟩, _, 3, rfl, rfl, rfl⟩

theorem witness_DisplayControlCommandsSendTheRegister : FirstAndLast 0x0B0000 0
    (sendMoves (idle.cfg.k.displayControl ||| 0x04) 0 { idle with displayControl := 0x04 } idle ++
      [completed 0x0B .ok idle]) :=
  ⟨⟨_, rfl, rfl, rfl⟩, _, 2, rfl, rfl, rfl⟩

theorem witness_ScrollCommandsSendAConstant : FirstAndLast 0x0C0000 0
    (sendMoves (idle.cfg.k.cursorShift ||| idle.cfg.k.shDisplayMove) 0 idle idle ++
      [completed 0x0C .ok idle]) :=
  ⟨⟨_, rfl, rfl, rfl⟩, _, 2, rfl, rfl, rfl⟩

theorem witness_EntryModeCommandsSendTheRegister : FirstAndLast 0x110000 0
    (sendMoves (idle.cfg.k.entryModeSet ||| 0x02) 0 { idle with displayMode := 0x02 } idle ++
      [completed 0x11 .ok idle]) :=
  ⟨⟨_, rfl, rfl, rfl⟩, _, 2, rfl, rfl, rfl⟩

/-- Each clause of `SET_CURSOR`, and both ends of the last. -/
theorem witness_SetCursorSendsTheAddress :
    clampRow 4 0 = 0 ∧ clampRow 4 1 = 1 ∧ clampRow 4 2 = 2 ∧ clampRow 4 3 = 3 ∧ 3 < clampRow 4 4 ∧
    clampRow 0 1 = 255 ∧
    FirstAndLast 0x050004 0
      (sendMoves (idle.cfg.k.setDdramAddr ||| (0 + Config.freeRowBase idle.draws)) 0
        { idle with draws := idle.draws + 1 } idle ++ [completed 0x05 .ok idle]) :=
  ⟨by decide, by decide, by decide, by decide, by decide, by decide,
    ⟨_, rfl, rfl, rfl⟩, _, 2, rfl, rfl, rfl⟩

/-- The edges of the table: 2 of 1, 3 of 2, 4 of 3, 4 and 5 of 4, 1 of 0, 4, 5 and 6 of 5. -/
theorem witness_SetCursorBoundaryTable :
    ((2 : Byte) ≤ 2 ∧ (3 : Byte) ≤ 3 ∧ (4 : Byte) ≤ 4 ∧ (5 : Byte) ≤ 5 ∧ (1 : Byte) ≤ 1) ∧
    ((5 : Byte) ≤ 5 ∧ (4 : Byte) ≤ 4 ∧ (4 : Byte) ≤ 5) ∧
    ((5 : Byte) ≤ 5 ∧ (4 : Byte) ≤ 5 ∧ (5 : Byte) ≤ 5) ∧ ((5 : Byte) ≤ 5 ∧ (5 : Byte) < 6) := by
  decide

theorem witness_CreateCharSendsTheGlyph : FirstAndLast 0x120900 0x0000040E1F1F0A00
    (sendMoves 0x48 0 idle idle ++
      sendMoves 0x00 1 idle idle ++ sendMoves 0x0A 1 idle idle ++ sendMoves 0x1F 1 idle idle ++
      sendMoves 0x1F 1 idle idle ++ sendMoves 0x0E 1 idle idle ++ sendMoves 0x04 1 idle idle ++
      sendMoves 0x00 1 idle idle ++ sendMoves 0x00 1 idle idle ++ [completed 0x12 .ok idle]) :=
  ⟨⟨_, rfl, rfl, rfl⟩, _, 18, rfl, rfl, rfl⟩

theorem witness_BacklightCommandsSendTheImage : FirstAndLast 0x130000 0
    [transmit [0x28] false { idle with backlightValue := 1, registerImage := 0x28 },
     completed 0x13 .ok idle] :=
  ⟨⟨_, rfl, rfl, rfl⟩, _, 1, rfl, rfl, rfl⟩

/-- `INIT` has a move for every `upc` from 0 to 23. -/
theorem witness_InitRunsItsMicroProgram :
    (executing 0x010000 0 0 idle).seq.busy = true ∧ (executing 0x010000 0 0 idle).seq.upc.toNat = 0 ∧
    (executing 0x010000 0 23 idle).seq.busy = true ∧
    (executing 0x010000 0 23 idle).seq.upc.toNat = programLength (.init 0 0 0) := by
  decide

theorem witness_DisplayFunctionIsDerived :
    State.reset.cfg.k = kDefault ∧
    (({ State.reset.cfg with rows := 1 } : Cfg).rows = 1 ∧ State.reset.cfg.font10 = false) ∧
    ({ State.reset.cfg with rows := 1, font10 := true } : Cfg).font10 = true ∧
    2 ≤ State.reset.cfg.rows ∧ ({ State.reset.cfg with rows := 0 } : Cfg).rows = 0 := by
  decide

/-- Program P5's shape: the second and sixth transmit fail, `POLL`s are answered false twice and once. -/
def initScript : State :=
  { presented 0x010000 0 State.reset with
    tx := ⟨(List.range 10).map fun j => if j = 1 ∨ j = 5 then .fail else .ok, none⟩
    ready := ⟨((List.range 6).map fun j => pollAnswers (if j = 0 then 2 else if j = 2 then 1 else 0)).flatten,
      none⟩ }

theorem witness_InitRunsToItsTerminalState :
    ∃ (st : Nat → Status) (k : Nat → Nat), initScript.seq.busy = false ∧
      initScript.port = [(packWord 0x01 0 0, 0)] ∧
      initScript.tx.script = (List.range 10).map st ++ [] ∧
      initScript.ready.script = ((List.range 6).map fun j => pollAnswers (k j)).flatten ++ [] :=
  ⟨fun j => if j = 1 ∨ j = 5 then .fail else .ok,
    fun j => if j = 0 then 2 else if j = 2 then 1 else 0, by decide⟩

theorem witness_InitWritesInFixedOrder :
    ∃ (st : Nat → Status) (k : Nat → Nat) (t : State), initScript.seq.busy = false ∧
      initScript.port = [(packWord 0x01 0 0, 0)] ∧ initScript.cfg.k = kDefault ∧
      initScript.cfg.nibCommit4 = 0x2 ∧ initScript.tx.script = (List.range 10).map st ∧
      initScript.ready.script = ((List.range 6).map fun j => pollAnswers (k j)).flatten ∧
      runSteps (25 + (k 0 + k 1 + k 2 + k 3 + k 4 + k 5)) initScript = .next t := by
  obtain ⟨t, ht⟩ := exists_next (o := runSteps 28 initScript) (by decide)
  exact ⟨fun j => if j = 1 ∨ j = 5 then .fail else .ok,
    fun j => if j = 0 then 2 else if j = 2 then 1 else 0, t, by decide, by decide, by decide,
    by decide, by decide, by decide, ht⟩

theorem witness_WriteByteRunsToCompletion :
    let s : State :=
      { presented 0x0248AB 0 idle with tx := ⟨[.fail], none⟩, ready := ⟨[false, true], none⟩ }
    s.seq.busy = false ∧ s.initDone = true ∧ s.port = [(packWord 0x02 0x48 0xAB, 0)] ∧
      s.tx.script = [.fail] ∧ s.ready.script = pollAnswers 1 ++ [] := by
  decide

theorem witness_CommandsCompleteWhenBusReady :
    let i : Instr := .createChar 9 0 [0x00, 0x0A, 0x1F, 0x1F, 0x0E, 0x04, 0x00, 0x00]
    let s := presented 0x120900 0x0000040E1F1F0A00 idle
    WellFormed i = true ∧ s.seq.busy = false ∧ s.port = [encode i] ∧ s.initDone = true ∧
      s.ready.script = [] ∧ s.ready.after = some true := by
  decide

theorem witness_BusNeverReadyHangs :
    let s : State := { midRun with ready := ⟨[], some false⟩ }
    Executing (.writeByte 0x48 0 0) s ∧ s.seq.upc.toNat ∈ pollsAt (.writeByte 0x48 0 0) ∧
      s.ready.script = [] ∧ s.ready.after = some false :=
  ⟨⟨rfl, by decide⟩, by decide, rfl, rfl⟩

/-- The second clause of `BusNeverReadyHangs`. -/
theorem witness_BusNeverReadyHangs_backlight :
    let s : State := { executing 0x130000 0 0 idle with ready := ⟨[], some false⟩ }
    (Instr.backlightOn 0 0 0).opcode = 0x13 ∧ Executing (.backlightOn 0 0 0) s ∧ s.seq.upc = 0 :=
  ⟨rfl, ⟨rfl, by decide⟩, rfl⟩

/-- The same command with a transmit that fails and a bus that is busy twice. -/
theorem witness_WireIndependentOfAnswers :
    let s := presented 0x024800 0 idle
    let s' : State := { s with tx := ⟨[.fail], some .ok⟩, ready := ⟨[false, false], some true⟩ }
    (s.tx.after.isSome = true ∧ s.ready.after.isSome = true ∧ s'.tx.after.isSome = true ∧
      s'.ready.after.isSome = true) ∧
    (nextOf (runSteps 4 s)).map (fun t => (t.seq.busy, t.port)) = some (false, []) ∧
    (nextOf (runSteps 6 s')).map (fun t => (t.seq.busy, t.port)) = some (false, []) := by
  decide

theorem witness_StepKeepsTheInvariant : ∃ t, Inv midRun ∧ step midRun = .next t := by
  obtain ⟨t, ht⟩ := exists_next (o := step midRun) (by decide)
  exact ⟨t, midRun_inv, ht⟩

/-- `BACKLIGHT_ON` about to transmit. -/
def backlightRun : State := { executing 0x130000 0 0 idle with trace := [.accept 0x130000 0] }

theorem backlightRun_inv : Inv backlightRun where
  seqLegal := fun _ => ⟨.backlightOn 0 0 0, by decide, by decide⟩
  controlBits := by decide
  modeBits := by decide
  functionBits := by decide
  rwLow := by decide
  backlightMirrored := by decide
  darkDuringInit := by decide
  eventsLegal := by
    intro e he
    simp only [backlightRun, List.mem_cons, List.not_mem_nil, or_false] at he
    subst he
    trivial
  orderKept := by decide

/-- A step that transmits. -/
theorem witness_EveryByteCarriesTheBacklight : ∃ t, Inv backlightRun ∧ step backlightRun = .next t ∧
    t.trace = backlightRun.trace ++ [.tx 0x27 [0x28] 100 .ok] :=
  ⟨_, backlightRun_inv, rfl, by decide⟩

theorem witness_FieldsAreIndependent :
    ∀ i ∈ ([.backlightOn 0 0 0, .backlightOff 0 0 0, .writeByte 0 0 0, .displayOn 0 0 0,
      .blinkOff 0 0 0, .leftToRight 0 0 0, .autoscrollOff 0 0 0] : List Instr),
      ∃ t, exec i midRun = .next t := by
  intro i hi
  refine exists_next ?_
  revert i
  decide

theorem witness_AccessTableWriters :
    ∀ i ∈ ([.writeByte 0 0 0, .setCursor 0 0 0, .scrollLeft 0 0 0, .scrollRight 0 0 0,
      .createChar 0 0 [0, 1, 2, 3, 4, 5, 6, 7]] : List Instr),
      i.opcode ≠ 0x01 ∧ ∃ t, exec i midRun = .next t := by
  intro i hi
  refine (fun h => ⟨h.1, exists_next h.2⟩ : _ ∧ (nextOf (exec i midRun)).isSome = true → _) ?_
  revert i
  decide

theorem witness_ConfigurationIsConstant : ∃ t, step midRun = .next t := exists_next (by decide)

theorem witness_TraceOnlyGrows : ∃ t, step (executing 0x010000 0 0 idle) = .next t :=
  exists_next (by decide)

/-- Both values of `init_done`, and the step that sets it. -/
theorem witness_InitDoneIsSetByInitOnly :
    (∃ t, step midRun = .next t ∧ midRun.initDone = true) ∧
    ∃ t, step (executing 0x010000 0 23 State.reset) = .next t ∧
      (executing 0x010000 0 23 State.reset).initDone = false := by
  obtain ⟨t, ht⟩ := exists_next (o := step midRun) (by decide)
  obtain ⟨u, hu⟩ := exists_next (o := step (executing 0x010000 0 23 State.reset)) (by decide)
  exact ⟨⟨t, ht, rfl⟩, u, hu, rfl⟩

/-- Every clause: `upc` 0, the four recorded transmits, one that records nothing, and the last `upc`. -/
theorem witness_InitFailRecordsFourTransmits :
    ∀ u ∈ ([0, 1, 3, 5, 7, 9, 22] : List (BitVec 6)),
      (executing 0x010000 0 u idle).seq.busy = true ∧
      (executing 0x010000 0 u idle).seq.upc.toNat < 23 ∧
      ∃ t, exec (.init 0 0 0) (executing 0x010000 0 u idle) = .next t := by
  intro u hu
  refine (fun h => ⟨h.1, h.2.1, exists_next h.2.2⟩ :
    _ ∧ _ ∧ (nextOf (exec (.init 0 0 0) (executing 0x010000 0 u idle))).isSome = true → _) ?_
  revert u
  decide

/-- A completion of `INIT` with a recorded failure and one of `WRITE_BYTE`. -/
theorem witness_OnlyInitReportsFailure :
    (nextOf (step (executing 0x010000 0 23 { idle with initFail := true }))).map (fun t => t.done) =
      some true ∧
    (nextOf (step (executing 0x024800 0 2 idle))).map (fun t => t.done) = some true := by
  decide

theorem witness_FlagCommandsAreIdempotent :
    ∀ i ∈ ([.displayOn 0 0 0, .blinkOff 0 0 0, .leftToRight 0 0 0, .autoscrollOff 0 0 0] : List Instr),
      ((0x06 ≤ i.opcode ∧ i.opcode ≤ 0x0B) ∨ (0x0E ≤ i.opcode ∧ i.opcode ≤ 0x11)) ∧
      ∃ t u, exec i (executing 0x070000 0 0 idle) = .next t ∧
        exec i { t with seq := (executing 0x070000 0 0 idle).seq } = .next u := by
  intro i hi
  refine ⟨by revert i; decide, ?_⟩
  simp only [List.mem_cons, List.not_mem_nil, or_false] at hi
  rcases hi with rfl | rfl | rfl | rfl <;> exact ⟨_, _, rfl, rfl⟩

theorem witness_SendWaitsForTheBus :
    ∃ t, Inv midRun ∧ seqPhase midRun = .waiting ∧ step midRun = .next t := by
  obtain ⟨t, ht⟩ := exists_next (o := step midRun) (by decide)
  exact ⟨t, midRun_inv, by decide, ht⟩

/-- A delivered transmit, a failed one, and a step that transmits nothing. -/
theorem witness_ImageMirrorsTheExpander :
    (nextOf (step (executing 0x140000 0 0 idle))).map (fun t => t.trace) =
      some [.tx 0x27 [0x20] 100 .ok] ∧
    (nextOf (step (executing 0x140000 0 0 { idle with tx := ⟨[.fail], none⟩ }))).map
      (fun t => t.trace) = some [.tx 0x27 [0x20] 100 .fail] ∧
    (nextOf (step midRun)).map (fun t => txLists t.trace) = some (txLists midRun.trace) := by
  decide

theorem witness_PowerCycleLosesEverything :
    let s' : State := { midRun with backlightValue := 0, initDone := false, trace := [] }
    midRun.cfg = s'.cfg ∧ midRun.port = s'.port ∧ midRun.tx = s'.tx ∧ midRun.ready = s'.ready ∧
      midRun.draws = s'.draws ∧ midRun.preInit = s'.preInit := by
  decide

theorem witness_PrintStringSendsEachCharacter : ∀ c ∈ ([0x48, 0x49] : List Byte), c ≠ 0x00 := by decide

/-- Each base, and the largest value that fits. -/
theorem witness_FormatRoundTrips :
    ((8 : Nat) = 8 ∧ (10 : Nat) = 10 ∧ (16 : Nat) = 16) ∧
    (∃ ds, format 2 255 16 = .ok ds) ∧ 1 ≤ 2 ∧ 255 < 16 ^ 2 :=
  ⟨by decide, ⟨_, rfl⟩, by decide, by decide⟩

theorem witness_PrintfScansTheFormat :
    ((0x41 : Byte) ≠ 0x25) ∧
    (∃ ds, format 11 (8 % 2 ^ 32) 8 = .ok ds) ∧ (∃ ds, format 11 (0xBEEF % 2 ^ 32) 16 = .ok ds) ∧
    (0 ≤ (BitVec.ofNat 32 21).toInt ∧ ∃ ds, format 11 (BitVec.ofNat 32 21).toInt.natAbs 10 = .ok ds) ∧
    ((BitVec.ofNat 32 0xFFFFFFFB).toInt < 0 ∧
      (BitVec.ofNat 32 0xFFFFFFFB).toInt ≠ -(2 ^ (32 - 1) : Nat) ∧
      ∃ ds, format 11 (BitVec.ofNat 32 0xFFFFFFFB).toInt.natAbs 10 = .ok ds) ∧
    ((0x71 : Byte) ≠ 0x63 ∧ (0x71 : Byte) ≠ 0x64 ∧ (0x71 : Byte) ≠ 0x6F ∧ (0x71 : Byte) ≠ 0x78 ∧
      (0x71 : Byte) ≠ 0x73) :=
  ⟨by decide, ⟨_, rfl⟩, ⟨_, rfl⟩, ⟨by decide, _, rfl⟩, ⟨by decide, by decide, _, rfl⟩, by decide⟩

end Sys2Proof.Tests
end

section
/-! PROOFS. The frame of a step: the register update of every micro-program entry writes runtime
registers only (40_transport.md R141), and no step writes the configuration (00_scope.md R9). -/

namespace Sys2Proof.Machine

/-! ## The register updates of micro-program entries -/

/-- `s` with the runtime registers, the recorded failure and the count of draws of `u`. -/
def withRegistersOf (u s : State) : State :=
  { s with
    backlightValue := u.backlightValue, displayFunction := u.displayFunction,
    displayControl := u.displayControl, displayMode := u.displayMode,
    registerImage := u.registerImage, initFail := u.initFail, draws := u.draws }

/-- The update leaves alone everything but what `withRegistersOf` names: the configuration, the
sequencer, the trace, `init_done`, the port and the feeds among them. -/
def WritesRegistersOnly (f : State → State) : Prop := ∀ s, f s = withRegistersOf (f s) s

/-- The register update an entry makes before its micro-operation. -/
def entryUpdate (m : MicroOp) (s : State) : State := (m s).1

/-- Every entry of the micro-program writes runtime registers only. -/
def EntriesWriteRegistersOnly (ms : List MicroOp) : Prop :=
  ∀ m ∈ ms, WritesRegistersOnly (entryUpdate m)

theorem runMicroOp_eq_perform (m : MicroOp) (s : State) :
    runMicroOp m s = perform (m s).2 (entryUpdate m s) := rfl

theorem writesRegistersOnly_plain (act : State → Action) :
    WritesRegistersOnly (entryUpdate (plain act)) := fun _ => rfl

theorem writesRegistersOnly_updThen_plain {f : State → State} (hf : WritesRegistersOnly f)
    (act : State → Action) : WritesRegistersOnly (entryUpdate (updThen f (plain act))) := hf

theorem writesRegistersOnly_setDisplayControl (v : State → Byte) :
    WritesRegistersOnly fun s => setDisplayControl (v s) s := fun _ => rfl

theorem writesRegistersOnly_setDisplayMode (v : State → Byte) :
    WritesRegistersOnly fun s => setDisplayMode (v s) s := fun _ => rfl

theorem writesRegistersOnly_setBacklight (v : Bit) : WritesRegistersOnly (setBacklight v) :=
  fun _ => rfl

theorem writesRegistersOnly_initStep1 : WritesRegistersOnly initStep1 := fun _ => rfl

/-- Looking up a row offset at most draws a free value (R231, U2). -/
theorem writesRegistersOnly_setCursorOp (col row : Byte) :
    WritesRegistersOnly (entryUpdate (setCursorOp col row)) := by
  intro s
  have hupd : entryUpdate (setCursorOp col row) s = (rowOffset row s).2 := rfl
  rw [hupd]
  unfold rowOffset
  split
  · rfl
  · rfl

/-! ## The micro-programs -/

theorem entriesWriteRegistersOnly_append {ms ns : List MicroOp} :
    EntriesWriteRegistersOnly (ms ++ ns) ↔
      EntriesWriteRegistersOnly ms ∧ EntriesWriteRegistersOnly ns :=
  List.forall_mem_append

theorem entriesWriteRegistersOnly_cons {m : MicroOp} {ms : List MicroOp} :
    EntriesWriteRegistersOnly (m :: ms) ↔
      WritesRegistersOnly (entryUpdate m) ∧ EntriesWriteRegistersOnly ms :=
  List.forall_mem_cons

theorem entriesWriteRegistersOnly_singleton {m : MicroOp} :
    EntriesWriteRegistersOnly [m] ↔ WritesRegistersOnly (entryUpdate m) :=
  List.forall_mem_singleton

/-- An entry followed by the `POLL` that waits for it. -/
theorem entriesWriteRegistersOnly_thenPoll {m : MicroOp} (hm : WritesRegistersOnly (entryUpdate m)) :
    EntriesWriteRegistersOnly [m, pollOp] :=
  entriesWriteRegistersOnly_cons.mpr
    ⟨hm, entriesWriteRegistersOnly_singleton.mpr (writesRegistersOnly_plain _)⟩

theorem entriesWriteRegistersOnly_send (byte : State → Byte) (isData : Bit) :
    EntriesWriteRegistersOnly (send byte isData) :=
  entriesWriteRegistersOnly_thenPoll (writesRegistersOnly_plain _)

theorem entriesWriteRegistersOnly_updThenSend {f : State → State} (hf : WritesRegistersOnly f)
    (byte : State → Byte) (isData : Bit) :
    EntriesWriteRegistersOnly (updThenSend f byte isData) :=
  entriesWriteRegistersOnly_thenPoll (writesRegistersOnly_updThen_plain hf _)

theorem entriesWriteRegistersOnly_sendThenSettle (byte : State → Byte) :
    EntriesWriteRegistersOnly (sendThenSettle byte) :=
  entriesWriteRegistersOnly_append.mpr ⟨entriesWriteRegistersOnly_send _ _,
    entriesWriteRegistersOnly_singleton.mpr (writesRegistersOnly_plain _)⟩

theorem entriesWriteRegistersOnly_displayControlProgram (v : State → Byte) :
    EntriesWriteRegistersOnly (displayControlProgram v) :=
  entriesWriteRegistersOnly_updThenSend (writesRegistersOnly_setDisplayControl v) _ _

theorem entriesWriteRegistersOnly_entryModeProgram (v : State → Byte) :
    EntriesWriteRegistersOnly (entryModeProgram v) :=
  entriesWriteRegistersOnly_updThenSend (writesRegistersOnly_setDisplayMode v) _ _

theorem entriesWriteRegistersOnly_bitmapProgram (bitmap : List Byte) :
    EntriesWriteRegistersOnly (bitmapProgram bitmap) := by
  intro m hm
  obtain ⟨row, -, hrow⟩ := List.mem_flatMap.mp hm
  exact entriesWriteRegistersOnly_send _ _ m hrow

theorem entriesWriteRegistersOnly_backlightProgram (v : Bit) :
    EntriesWriteRegistersOnly (backlightProgram v) :=
  entriesWriteRegistersOnly_singleton.mpr
    (writesRegistersOnly_updThen_plain (writesRegistersOnly_setBacklight v) _)

/-- Of steps 1 to 6 of `INIT` only the first updates registers (R161 to R166). -/
theorem entriesWriteRegistersOnly_initRawProgram : EntriesWriteRegistersOnly initRawProgram := by
  have htail : ∀ m ∈ initRawProgram.tail, ∃ act, m = plain act := by
    simp [initRawProgram, delayOp, writeRaw, selectPair, rawPairOp, pollOp]
  refine entriesWriteRegistersOnly_cons.mpr
    ⟨writesRegistersOnly_updThen_plain writesRegistersOnly_initStep1 _, fun m hm => ?_⟩
  obtain ⟨act, rfl⟩ := htail m hm
  exact writesRegistersOnly_plain act

/-- The five `send`s of step 7 (R167). -/
theorem entriesWriteRegistersOnly_initSendProgram : EntriesWriteRegistersOnly initSendProgram := by
  simp only [initSendProgram, entriesWriteRegistersOnly_append]
  exact ⟨⟨⟨⟨entriesWriteRegistersOnly_send _ _,
    entriesWriteRegistersOnly_updThenSend (writesRegistersOnly_setDisplayControl _) _ _⟩,
    entriesWriteRegistersOnly_sendThenSettle _⟩,
    entriesWriteRegistersOnly_updThenSend (writesRegistersOnly_setDisplayMode _) _ _⟩,
    entriesWriteRegistersOnly_sendThenSettle _⟩

/-- No entry of any command's micro-program writes anything but runtime registers. -/
theorem commandOf_program_writesRegistersOnly (i : Instr) :
    EntriesWriteRegistersOnly (commandOf i).program := by
  cases i with
  | init =>
    exact entriesWriteRegistersOnly_append.mpr
      ⟨entriesWriteRegistersOnly_initRawProgram, entriesWriteRegistersOnly_initSendProgram⟩
  | writeByte | scrollLeft | scrollRight => exact entriesWriteRegistersOnly_send _ _
  | clear | home => exact entriesWriteRegistersOnly_sendThenSettle _
  | setCursor col row =>
    exact entriesWriteRegistersOnly_thenPoll (writesRegistersOnly_setCursorOp col row)
  | displayOn | displayOff | cursorOn | cursorOff | blinkOn | blinkOff =>
    exact entriesWriteRegistersOnly_displayControlProgram _
  | leftToRight | rightToLeft | autoscrollOn | autoscrollOff =>
    exact entriesWriteRegistersOnly_entryModeProgram _
  | createChar location b bitmap =>
    exact entriesWriteRegistersOnly_append.mpr
      ⟨entriesWriteRegistersOnly_send _ _, entriesWriteRegistersOnly_bitmapProgram bitmap⟩
  | backlightOn | backlightOff => exact entriesWriteRegistersOnly_backlightProgram _

/-! ## The configuration -/

@[simp] theorem perform_cfg (act : Action) (s : State) : (perform act s).cfg = s.cfg := by
  cases act with
  | tx v record => exact transmit_cfg v record s
  | poll => exact poll_cfg s
  | delay n => exact delay_cfg n s

/-- An entry that writes runtime registers only runs without writing the configuration. -/
theorem runMicroOp_cfg {m : MicroOp} (hm : WritesRegistersOnly (entryUpdate m)) (s : State) :
    (runMicroOp m s).cfg = s.cfg := by
  have hupd : (entryUpdate m s).cfg = s.cfg := (congrArg State.cfg (hm s)).trans rfl
  rw [runMicroOp_eq_perform, perform_cfg, hupd]

/-- The update of a completion is `init_done <- 1` for `INIT`, and none for the other commands
(R173, R284). -/
@[simp] theorem commandOf_atEnd_cfg (i : Instr) (s : State) :
    ((commandOf i).atEnd s).cfg = s.cfg := by
  cases i <;> rfl

theorem complete_cfg (c : Command) (s : State) : (complete c s).cfg = (c.atEnd s).cfg := rfl

/-- Settles O42: each of the four things a step can be keeps `cfg` (R9). -/
theorem configurationIsConstant : Obligations.ConfigurationIsConstant := by
  intro s t h
  rcases step_cases h with ⟨-, -, rfl⟩ | ⟨w, p, rest, i, -, -, -, rfl⟩ | ⟨i, m, -, -, hm, rfl⟩ |
    ⟨i, -, -, -, rfl⟩
  · exact lowerDone_cfg s
  · simp only [latch_cfg, popPort_cfg, lowerDone_cfg]
  · have hentry := commandOf_program_writesRegistersOnly i m (List.mem_of_getElem? hm)
    rw [runMicroOp_cfg hentry, lowerDone_cfg]
  · rw [complete_cfg, commandOf_atEnd_cfg, lowerDone_cfg]

end Sys2Proof.Machine
end


section
/-! PROOFS. Every micro-program entry, by its place in its program: what it leaves in the registers, the
bytes it sends and the order of the events it appends (40_transport.md R141; 20_memory.md R69, R75 to
R77). From it the invariant of the block is kept by every step (10_state.md R22 to R26, R30). -/

namespace Sys2Proof.Machine

/-! ## What an action does -/

/-- The events an action appends to the trace (R131, R135, R136). -/
def Action.events : Action → State → List Event
  | .tx v _, s => [.tx s.cfg.addr v busTimeout (txAnswer s)]
  | .poll, s => .ready s.cfg.bus (readyAnswer s) :: if readyAnswer s then [] else [.delay tPoll]
  | .delay n, _ => [.delay n]

/-- The bytes an action hands to the bus. -/
def Action.bytes : Action → List Byte
  | .tx v _ => v
  | .poll | .delay _ => []

/-- Whether `upc` moves on: a `POLL` answered false stays (R135). -/
def Action.movesOn : Action → State → Bool
  | .poll, s => readyAnswer s
  | .tx _ _, _ | .delay _, _ => true

theorem perform_trace (act : Action) (s : State) :
    (perform act s).trace = s.trace ++ act.events s := by
  cases act with
  | tx v record => exact transmit_trace v record s
  | poll => exact poll_trace s
  | delay n => exact delay_trace n s

theorem perform_seq (act : Action) (s : State) :
    (perform act s).seq =
      if act.movesOn s then { s.seq with upc := s.seq.upc + 1 } else s.seq := by
  cases act with
  | tx v record => exact transmit_seq v record s
  | poll => exact poll_seq s
  | delay n => exact delay_seq n s

/-- The image takes the bytes that are sent (R131). -/
theorem perform_registerImage (act : Action) (s : State) :
    (perform act s).registerImage = imageAfter s.registerImage act.bytes := by
  cases act with
  | tx v record => exact transmit_registerImage v record s
  | poll => exact poll_registerImage s
  | delay n => exact delay_registerImage n s

@[simp] theorem perform_backlightValue (act : Action) (s : State) :
    (perform act s).backlightValue = s.backlightValue := by
  cases act with
  | tx v record => exact transmit_backlightValue v record s
  | poll => exact poll_backlightValue s
  | delay n => exact delay_backlightValue n s

@[simp] theorem perform_displayFunction (act : Action) (s : State) :
    (perform act s).displayFunction = s.displayFunction := by
  cases act with
  | tx v record => exact transmit_displayFunction v record s
  | poll => exact poll_displayFunction s
  | delay n => exact delay_displayFunction n s

@[simp] theorem perform_displayControl (act : Action) (s : State) :
    (perform act s).displayControl = s.displayControl := by
  cases act with
  | tx v record => exact transmit_displayControl v record s
  | poll => exact poll_displayControl s
  | delay n => exact delay_displayControl n s

@[simp] theorem perform_displayMode (act : Action) (s : State) :
    (perform act s).displayMode = s.displayMode := by
  cases act with
  | tx v record => exact transmit_displayMode v record s
  | poll => exact poll_displayMode s
  | delay n => exact delay_displayMode n s

@[simp] theorem perform_initDone (act : Action) (s : State) :
    (perform act s).initDone = s.initDone := by
  cases act with
  | tx v record => exact transmit_initDone v record s
  | poll => exact poll_initDone s
  | delay n => exact delay_initDone n s

/-! ## Flag registers and expander bytes -/

/-- No bit of `field` is set outside `mask`. -/
def Within (field mask : Byte) : Prop := field &&& ~~~mask = 0

theorem within_iff {field mask : Byte} :
    Within field mask ↔ ∀ j, field.getLsbD j = true → mask.getLsbD j = true := by
  constructor
  · intro h j hj
    have hbit : (field &&& ~~~mask).getLsbD j = false := by rw [h]; simp
    have hlt : j < 8 := BitVec.lt_of_getLsbD hj
    simpa [hj, hlt] using hbit
  · intro h
    apply BitVec.eq_of_getLsbD_eq
    intro j hj
    cases hf : field.getLsbD j with
    | false => simp [hf]
    | true => simp [h j hf]

theorem within_refl (mask : Byte) : Within mask mask := within_iff.mpr fun _ h => h

theorem within_zero (mask : Byte) : Within 0 mask := within_iff.mpr (by simp)

theorem within_or_left (x y : Byte) : Within x (x ||| y) := within_iff.mpr (by simp +contextual)

theorem within_or_right {x y z : Byte} (h : Within x z) : Within x (y ||| z) := by
  rw [within_iff] at h ⊢
  simp +contextual [h]

theorem within_or_mono {x y x' y' : Byte} (hx : Within x x') (hy : Within y y') :
    Within (x ||| y) (x' ||| y') := by
  rw [within_iff] at hx hy ⊢
  intro j hj
  simp only [BitVec.getLsbD_or, Bool.or_eq_true] at hj ⊢
  exact hj.imp (hx j) (hy j)

theorem within_setFlag {field flag mask : Byte} (hf : Within field mask) (hg : Within flag mask) :
    Within (setFlag field flag) mask := by
  have h := within_or_mono hf hg
  rwa [BitVec.or_self] at h

theorem within_clearFlag {field mask : Byte} (hf : Within field mask) (flag : Byte) :
    Within (clearFlag field flag) mask := by
  rw [within_iff] at hf ⊢
  intro j hj
  simp only [clearFlag, BitVec.getLsbD_and, Bool.and_eq_true] at hj
  exact hf j hj.1

/-- The flags of `display_control` (R23). -/
def controlMask (k : InstrConsts) : Byte := k.dcDisplayOn ||| k.dcCursorOn ||| k.dcBlinkOn

/-- The flags of `display_mode` (R24). -/
def modeMask (k : InstrConsts) : Byte := k.emLeft ||| k.emShiftInc

/-- The flags of `display_function` (R22). -/
def functionMask (k : InstrConsts) : Byte := k.fn2Line ||| k.fn5x10

/-- The derivation of R162 sets function flags only. -/
theorem within_deriveDisplayFunction (cfg : Cfg) :
    Within (deriveDisplayFunction cfg) (functionMask cfg.k) := by
  unfold deriveDisplayFunction functionMask
  refine within_or_mono ?_ ?_
  · split
    · exact within_refl _
    · exact within_zero _
  · split
    · exact within_refl _
    · exact within_zero _

/-- An expander byte with R/W low (R113) and the backlight `bl` (R26). -/
structure CarriesBacklight (bl : Bit) (y : Byte) : Prop where
  rwLow : (expanderFields y).rw = 0
  backlight : (expanderFields y).bl = bl

theorem carriesBacklight_compose (data : Nibble) (en rs bl : Bit) :
    CarriesBacklight bl (compose data en rs bl) := by
  constructor
  · simp
  · simp

theorem carriesBacklight_zero : CarriesBacklight 0 0 := ⟨rfl, rfl⟩

theorem carriesBacklight_withBacklight {bl : Bit} {y : Byte} (h : CarriesBacklight bl y) (v : Bit) :
    CarriesBacklight v (withBacklight y v) := by
  constructor
  · simpa using h.rwLow
  · simp

/-- The last byte sent stands in the image (R131). -/
theorem carriesBacklight_imageAfter {bl : Bit} {v : List Byte} :
    ∀ {image : Byte}, CarriesBacklight bl image → (∀ y ∈ v, CarriesBacklight bl y) →
      CarriesBacklight bl (imageAfter image v) := by
  induction v with
  | nil => exact fun h _ => h
  | cons y v ih =>
    intro image _ hv
    obtain ⟨hy, hv⟩ := List.forall_mem_cons.mp hv
    exact ih hy hv

theorem carriesBacklight_frame (byte : Byte) (isData bl : Bit) :
    ∀ y ∈ frame byte isData bl, CarriesBacklight bl y := by
  simp [frame, carriesBacklight_compose]

theorem carriesBacklight_rawPair (nib : Nibble) (bl : Bit) :
    ∀ y ∈ rawPair nib bl, CarriesBacklight bl y := by
  simp [rawPair, carriesBacklight_compose]

/-! ## The order of events -/

/-- The phase of the order in which the micro-program of `i` stands at `upc = k` (R77). -/
def phaseAt (i : Instr) (k : Nat) : Phase := if k ∈ sendPolls i then .waiting else .running

theorem phaseAt_ne_idle (i : Instr) (k : Nat) : phaseAt i k ≠ .idle := by
  unfold phaseAt
  split <;> simp

theorem phaseAt_start (i : Instr) : phaseAt i 0 = .running := by cases i <;> rfl

theorem phaseAt_end (i : Instr) : phaseAt i (programLength i) = .running := by cases i <;> rfl

theorem seqPhase_idle {s : State} (hb : s.seq.busy = false) : seqPhase s = .idle := by
  simp [seqPhase, hb]

theorem seqPhase_busy {i : Instr} {s : State} (hb : s.seq.busy = true)
    (hi : latchedInstr s = some i) : seqPhase s = phaseAt i s.seq.upc.toNat := by
  simp [seqPhase, phaseAt, hb, hi]

/-- The action is allowed in phase `p` and, once it moves on, leaves phase `q` (R75 to R77): a transmit
has 1, 2 or 4 bytes (R69), and after 4 the bus is waited for. -/
def Action.Orders (p q : Phase) : Action → Prop
  | .tx v _ => p = .running ∧
      (v.length = 1 ∧ q = .running ∨ v.length = 2 ∧ q = .running ∨ v.length = 4 ∧ q = .waiting)
  | .poll => p ≠ .idle ∧ q = .running
  | .delay _ => p = .running ∧ q = .running

/-- The phase after the events of an ordered action. -/
theorem Action.Orders.phase_events {p q : Phase} {act : Action} (h : act.Orders p q) (s : State) :
    (act.events s).foldlM Phase.next p = some (if act.movesOn s then q else p) := by
  cases act with
  | tx v record =>
    obtain ⟨rfl, ⟨hl, rfl⟩ | ⟨hl, rfl⟩ | ⟨hl, rfl⟩⟩ := h <;>
      simp [Action.events, Action.movesOn, Phase.next, hl]
  | delay n =>
    obtain ⟨rfl, rfl⟩ := h
    rfl
  | poll =>
    obtain ⟨hp, rfl⟩ := h
    cases p with
    | idle => exact absurd rfl hp
    | running | waiting =>
      cases hr : readyAnswer s <;> simp [Action.events, Action.movesOn, Phase.next, hr]

/-- The events of an ordered action with legal bytes are events the block makes. -/
theorem Action.Orders.legalEvent {p q : Phase} {bl : Bit} {act : Action} (h : act.Orders p q)
    (hb : ∀ y ∈ act.bytes, CarriesBacklight bl y) (s : State) :
    ∀ e ∈ act.events s, LegalEvent s.cfg e := by
  cases act with
  | tx v record =>
    have hlen : v.length = 1 ∨ v.length = 2 ∨ v.length = 4 :=
      h.2.imp And.left fun h => h.imp And.left And.left
    have hlow : ∀ y ∈ v, (expanderFields y).rw = 0 := fun y hy => (hb y hy).rwLow
    simpa [Action.events, LegalEvent, hlen] using hlow
  | poll => cases hr : readyAnswer s <;> simp [Action.events, LegalEvent, hr]
  | delay n => simp [Action.events, LegalEvent]

/-! ## One entry at its place -/

/-- The registers of a state in which the command `i` stands at `upc = k`: flags within their masks
(R22 to R24), the image mirroring the backlight (R25, R26), dark within `INIT` (R161). -/
structure ReadyAt (i : Instr) (k : Nat) (s : State) : Prop where
  control : Within s.displayControl (controlMask s.cfg.k)
  mode : Within s.displayMode (modeMask s.cfg.k)
  function : Within s.displayFunction (functionMask s.cfg.k)
  image : CarriesBacklight s.backlightValue s.registerImage
  dark : i.opcode = 0x01 → k ≠ 0 → s.backlightValue = 0

/-- The register update `f` at `upc = k` leaves the registers ready for what follows. -/
def UpdateFits (i : Instr) (k : Nat) (f : State → State) : Prop :=
  ∀ s, ReadyAt i k s → ReadyAt i (k + 1) (f s)

/-- The entry `m` at `upc = k` of `i`: its update, the bytes of its action and its place in the order. -/
structure EntryFits (i : Instr) (k : Nat) (m : MicroOp) : Prop where
  update : UpdateFits i k (entryUpdate m)
  bytes : ∀ s, ReadyAt i (k + 1) (entryUpdate m s) →
    ∀ y ∈ (m s).2.bytes, CarriesBacklight (entryUpdate m s).backlightValue y
  order : ∀ s, (m s).2.Orders (phaseAt i k) (phaseAt i (k + 1))

theorem opcode_eq_one_iff {i : Instr} : i.opcode = 0x01 ↔ ∃ a b p, i = .init a b p := by
  cases i <;> simp [Instr.opcode]

/-- `k` is past step 1 of `INIT`, or the command is another. -/
def PastStep1 (i : Instr) (k : Nat) : Prop := i.opcode = 0x01 → k ≠ 0

theorem pastStep1_succ {i : Instr} (k : Nat) : PastStep1 i (k + 1) := fun _ => Nat.succ_ne_zero k

theorem pastStep1_of_ne {i : Instr} (hi : i.opcode ≠ 0x01) (k : Nat) : PastStep1 i k :=
  fun h => absurd h hi

section Updates

variable {i : Instr} {k : Nat}

theorem updateFits_id (hk : PastStep1 i k) : UpdateFits i k id := fun _ h =>
  ⟨h.control, h.mode, h.function, h.image, fun hi _ => h.dark hi (hk hi)⟩

theorem updateFits_setDisplayControl {v : State → Byte} (hk : PastStep1 i k)
    (hv : ∀ s, Within s.displayControl (controlMask s.cfg.k) → Within (v s) (controlMask s.cfg.k)) :
    UpdateFits i k fun s => setDisplayControl (v s) s := fun s h =>
  ⟨hv s h.control, h.mode, h.function, h.image, fun hi _ => h.dark hi (hk hi)⟩

theorem updateFits_setDisplayMode {v : State → Byte} (hk : PastStep1 i k)
    (hv : ∀ s, Within s.displayMode (modeMask s.cfg.k) → Within (v s) (modeMask s.cfg.k)) :
    UpdateFits i k fun s => setDisplayMode (v s) s := fun s h =>
  ⟨h.control, hv s h.mode, h.function, h.image, fun hi _ => h.dark hi (hk hi)⟩

theorem updateFits_setBacklight (hi : i.opcode ≠ 0x01) (v : Bit) : UpdateFits i k (setBacklight v) :=
  fun _ h => ⟨h.control, h.mode, h.function, carriesBacklight_withBacklight h.image v,
    fun h1 _ => absurd h1 hi⟩

theorem updateFits_initStep1 : UpdateFits i k initStep1 := fun s _ =>
  ⟨within_zero _, within_zero _, within_deriveDisplayFunction s.cfg, carriesBacklight_zero,
    fun _ _ => rfl⟩

end Updates

section Entries

variable {i : Instr} {k : Nat}

/-- The place of an entry that is neither the frame of a `send` nor its `POLL` (R160). -/
structure PlainAt (i : Instr) (k : Nat) : Prop where
  here : phaseAt i k = .running
  after : phaseAt i (k + 1) = .running

/-- The place of the two entries of a `send` (R133). -/
structure SendAt (i : Instr) (k : Nat) : Prop where
  frame : phaseAt i k = .running
  wait : phaseAt i (k + 1) = .waiting
  after : phaseAt i (k + 2) = .running
  past : PastStep1 i k

theorem entryFits_delayOp {f : State → State} (h : PlainAt i k) (hf : UpdateFits i k f) (n : Nat) :
    EntryFits i k (updThen f (delayOp n)) where
  update := hf
  bytes _ _ := List.forall_mem_nil _
  order _ := ⟨h.here, h.after⟩

theorem entryFits_pollOp (hq : phaseAt i (k + 1) = .running) (hk : PastStep1 i k) :
    EntryFits i k pollOp where
  update := updateFits_id hk
  bytes _ _ := List.forall_mem_nil _
  order _ := ⟨phaseAt_ne_idle i k, hq⟩

theorem entryFits_rawPairOp (h : PlainAt i k) (hk : PastStep1 i k) (nib : State → Nibble)
    (record : Bool) : EntryFits i k (rawPairOp nib record) where
  update := updateFits_id hk
  bytes _ _ := carriesBacklight_rawPair _ _
  order _ := ⟨h.here, .inr (.inl ⟨rfl, h.after⟩)⟩

/-- Looking up a row offset writes nothing but the count of draws (R231, U2). -/
theorem rowOffset_snd (row : Byte) (s : State) :
    (rowOffset row s).2 = { s with draws := (rowOffset row s).2.draws } := by
  unfold rowOffset
  split
  · rfl
  · rfl

/-- A raw byte after a register update, when the updated registers make it a legal one. -/
theorem entryFits_writeRaw {f : State → State} {byte : State → Byte} (h : PlainAt i k)
    (hf : UpdateFits i k f)
    (hb : ∀ s, ReadyAt i (k + 1) s → CarriesBacklight s.backlightValue (byte s)) :
    EntryFits i k (updThen f (writeRaw byte)) where
  update := hf
  bytes s hs := List.forall_mem_singleton.mpr (hb (f s) hs)
  order _ := ⟨h.here, .inl ⟨rfl, h.after⟩⟩

theorem entryFits_frameOp {f : State → State} (h : SendAt i k) (hf : UpdateFits i k f)
    (byte : State → Byte) (isData : Bit) : EntryFits i k (updThen f (frameOp byte isData)) where
  update := hf
  bytes _ _ := carriesBacklight_frame _ _ _
  order _ := ⟨h.frame, .inr (.inr ⟨rfl, h.wait⟩)⟩

theorem entryFits_setCursorOp (h : SendAt i k) (col row : Byte) :
    EntryFits i k (setCursorOp col row) where
  update s hs := by
    change ReadyAt i (k + 1) (rowOffset row s).2
    rw [rowOffset_snd]
    exact ⟨hs.control, hs.mode, hs.function, hs.image, fun hi _ => hs.dark hi (h.past hi)⟩
  bytes s _ := by
    change ∀ y ∈ frame _ 0 s.backlightValue, CarriesBacklight (rowOffset row s).2.backlightValue y
    rw [rowOffset_snd]
    exact carriesBacklight_frame _ _ _
  order _ := ⟨h.frame, .inr (.inr ⟨rfl, h.wait⟩)⟩

end Entries

/-! ## The micro-programs, entry by entry -/

/-- Every entry of a part of the micro-program of `i` that begins at `upc = k` fits its place. -/
def EntriesFit (i : Instr) (k : Nat) (ms : List MicroOp) : Prop :=
  ∀ j m, ms[j]? = some m → EntryFits i (k + j) m

section Programs

variable {i : Instr} {k : Nat}

theorem entriesFit_nil : EntriesFit i k [] := by simp [EntriesFit]

theorem entriesFit_cons {m : MicroOp} {ms : List MicroOp} (hm : EntryFits i k m)
    (hms : EntriesFit i (k + 1) ms) : EntriesFit i k (m :: ms) := by
  intro j n hn
  cases j with
  | zero => cases hn; exact hm
  | succ j =>
    have h := hms j n hn
    rwa [Nat.add_right_comm] at h

theorem entriesFit_append {ms ns : List MicroOp} (hms : EntriesFit i k ms)
    (hns : EntriesFit i (k + ms.length) ns) : EntriesFit i k (ms ++ ns) := by
  induction ms generalizing k with
  | nil => exact hns
  | cons m ms ih =>
    refine entriesFit_cons (hms 0 m rfl) (ih ?_ ?_)
    · intro j n hn
      have h := hms (j + 1) n hn
      rwa [← Nat.add_assoc, Nat.add_right_comm] at h
    · rwa [List.length_cons, ← Nat.add_assoc, Nat.add_right_comm] at hns

/-- A frame and the `POLL` that waits for it. -/
theorem entriesFit_thenPoll {m : MicroOp} (h : SendAt i k) (hm : EntryFits i k m) :
    EntriesFit i k [m, pollOp] :=
  entriesFit_cons hm (entriesFit_cons (entryFits_pollOp h.after (pastStep1_succ k))
    entriesFit_nil)

theorem entriesFit_updThenSend {f : State → State} (h : SendAt i k) (hf : UpdateFits i k f)
    (byte : State → Byte) (isData : Bit) : EntriesFit i k (updThenSend f byte isData) :=
  entriesFit_thenPoll h (entryFits_frameOp h hf byte isData)

theorem entriesFit_send (h : SendAt i k) (byte : State → Byte) (isData : Bit) :
    EntriesFit i k (send byte isData) :=
  entriesFit_updThenSend h (updateFits_id h.past) byte isData

theorem entriesFit_sendThenSettle (h : SendAt i k) (hq : phaseAt i (k + 3) = .running)
    (byte : State → Byte) : EntriesFit i k (sendThenSettle byte) :=
  entriesFit_append (entriesFit_send h byte 0)
    (entriesFit_cons
      (entryFits_delayOp ⟨h.after, hq⟩ (updateFits_id (pastStep1_succ _)) _) entriesFit_nil)

theorem entriesFit_displayControlProgram {v : State → Byte} (h : SendAt i k)
    (hv : ∀ s, Within s.displayControl (controlMask s.cfg.k) → Within (v s) (controlMask s.cfg.k)) :
    EntriesFit i k (displayControlProgram v) :=
  entriesFit_updThenSend h (updateFits_setDisplayControl h.past hv) _ _

theorem entriesFit_entryModeProgram {v : State → Byte} (h : SendAt i k)
    (hv : ∀ s, Within s.displayMode (modeMask s.cfg.k) → Within (v s) (modeMask s.cfg.k)) :
    EntriesFit i k (entryModeProgram v) :=
  entriesFit_updThenSend h (updateFits_setDisplayMode h.past hv) _ _

theorem entriesFit_backlightProgram (hi : i.opcode ≠ 0x01) (h : PlainAt i k) (v : Bit) :
    EntriesFit i k (backlightProgram v) :=
  entriesFit_cons (entryFits_writeRaw h (updateFits_setBacklight hi v) fun _ h => h.image)
    entriesFit_nil

/-- The rows of a bitmap, one `send` each (R234). -/
theorem entriesFit_bitmapProgram {rows : List Byte} :
    ∀ {k : Nat}, (∀ j < rows.length, SendAt i (k + 2 * j)) → EntriesFit i k (bitmapProgram rows) := by
  induction rows with
  | nil => exact fun _ => entriesFit_nil
  | cons row rows ih =>
    intro k h
    refine entriesFit_append (entriesFit_send (h 0 (Nat.succ_pos _)) _ _) (ih fun j hj => ?_)
    have hnext := h (j + 1) (Nat.succ_lt_succ hj)
    rwa [Nat.mul_succ, Nat.add_comm (2 * j), ← Nat.add_assoc] at hnext

end Programs

theorem within_displayOn (k : InstrConsts) : Within k.dcDisplayOn (controlMask k) := by
  unfold controlMask
  rw [BitVec.or_assoc]
  exact within_or_left _ _

theorem within_cursorOn (k : InstrConsts) : Within k.dcCursorOn (controlMask k) := by
  unfold controlMask
  rw [BitVec.or_assoc]
  exact within_or_right (within_or_left _ _)

theorem within_blinkOn (k : InstrConsts) : Within k.dcBlinkOn (controlMask k) :=
  within_or_right (within_refl _)

theorem within_emLeft (k : InstrConsts) : Within k.emLeft (modeMask k) := within_or_left _ _

theorem within_emShiftInc (k : InstrConsts) : Within k.emShiftInc (modeMask k) :=
  within_or_right (within_refl _)

section Init

variable {a b : Byte} {p : Payload}

/-- Steps 1 to 6 hold no `send` (R160). -/
theorem plainAt_initRaw {k : Nat} (h : k < 11) : PlainAt (.init a b p) k := by
  have hnot {j : Nat} (hj : j < 12) : j ∉ sendPolls (.init a b p) := by
    simp only [sendPolls, List.mem_cons, List.not_mem_nil, or_false]
    omega
  exact ⟨if_neg (hnot (by omega)), if_neg (hnot (by omega))⟩

theorem entriesFit_initRawProgram : EntriesFit (.init a b p) 0 initRawProgram := by
  have delayFits {k : Nat} (hk : k < 10) (n : Nat) : EntryFits (.init a b p) (k + 1) (delayOp n) :=
    entryFits_delayOp (plainAt_initRaw (by omega)) (updateFits_id (pastStep1_succ k)) n
  have pairFits {k : Nat} (hk : k < 10) (nib : State → Nibble) :
      EntryFits (.init a b p) (k + 1) (rawPairOp nib true) :=
    entryFits_rawPairOp (plainAt_initRaw (by omega)) (pastStep1_succ k) nib true
  have clearFits : EntryFits (.init a b p) 1 (writeRaw fun _ => 0x00) := by
    refine entryFits_writeRaw (plainAt_initRaw (by decide)) (updateFits_id (pastStep1_succ 0))
      fun s hs => ?_
    rw [hs.dark rfl (by decide)]
    exact carriesBacklight_zero
  exact
    entriesFit_cons (entryFits_delayOp (plainAt_initRaw (by decide)) updateFits_initStep1 _) <|
    entriesFit_cons clearFits <|
    entriesFit_cons (delayFits (by decide) _) <|
    entriesFit_cons (pairFits (by decide) _) <|
    entriesFit_cons (delayFits (by decide) _) <|
    entriesFit_cons (pairFits (by decide) _) <|
    entriesFit_cons (delayFits (by decide) _) <|
    entriesFit_cons (pairFits (by decide) _) <|
    entriesFit_cons (delayFits (by decide) _) <|
    entriesFit_cons (pairFits (by decide) _) <|
    entriesFit_cons (entryFits_pollOp rfl (pastStep1_succ 9)) entriesFit_nil

/-- Step 7: five `send`s, two of them followed by a delay (R167 to R172). -/
theorem entriesFit_initSendProgram : EntriesFit (.init a b p) 11 initSendProgram := by
  refine entriesFit_append (entriesFit_append (entriesFit_append (entriesFit_append
    ?functionSet ?display) ?clear) ?entryMode) ?home
  case functionSet => exact entriesFit_send ⟨rfl, rfl, rfl, pastStep1_succ _⟩ _ _
  case display =>
    exact entriesFit_updThenSend ⟨rfl, rfl, rfl, pastStep1_succ _⟩
      (updateFits_setDisplayControl (pastStep1_succ _) fun s _ => within_displayOn s.cfg.k) _ _
  case clear => exact entriesFit_sendThenSettle ⟨rfl, rfl, rfl, pastStep1_succ _⟩ rfl _
  case entryMode =>
    exact entriesFit_updThenSend ⟨rfl, rfl, rfl, pastStep1_succ _⟩
      (updateFits_setDisplayMode (pastStep1_succ _) fun s _ => within_emLeft s.cfg.k) _ _
  case home => exact entriesFit_sendThenSettle ⟨rfl, rfl, rfl, pastStep1_succ _⟩ rfl _

end Init

/-- Every entry of every micro-program fits its place. -/
theorem program_fits {i : Instr} (hw : WellFormed i = true) :
    EntriesFit i 0 (commandOf i).program := by
  by_cases hi : i.opcode = 0x01
  · obtain ⟨a, b, p, rfl⟩ := opcode_eq_one_iff.mp hi
    exact entriesFit_append entriesFit_initRawProgram entriesFit_initSendProgram
  have hpast := pastStep1_of_ne hi
  cases i with
  | init => exact absurd rfl hi
  | writeByte | scrollLeft | scrollRight =>
    exact entriesFit_send ⟨rfl, rfl, rfl, hpast 0⟩ _ _
  | clear | home =>
    exact entriesFit_sendThenSettle ⟨rfl, rfl, rfl, hpast 0⟩ rfl _
  | setCursor col row =>
    exact entriesFit_thenPoll ⟨rfl, rfl, rfl, hpast 0⟩
      (entryFits_setCursorOp ⟨rfl, rfl, rfl, hpast 0⟩ col row)
  | displayOn =>
    exact entriesFit_displayControlProgram ⟨rfl, rfl, rfl, hpast 0⟩
      fun s h => within_setFlag h (within_displayOn s.cfg.k)
  | cursorOn =>
    exact entriesFit_displayControlProgram ⟨rfl, rfl, rfl, hpast 0⟩
      fun s h => within_setFlag h (within_cursorOn s.cfg.k)
  | blinkOn =>
    exact entriesFit_displayControlProgram ⟨rfl, rfl, rfl, hpast 0⟩
      fun s h => within_setFlag h (within_blinkOn s.cfg.k)
  | displayOff | cursorOff | blinkOff =>
    exact entriesFit_displayControlProgram ⟨rfl, rfl, rfl, hpast 0⟩
      fun _ h => within_clearFlag h _
  | leftToRight =>
    exact entriesFit_entryModeProgram ⟨rfl, rfl, rfl, hpast 0⟩
      fun s h => within_setFlag h (within_emLeft s.cfg.k)
  | autoscrollOn =>
    exact entriesFit_entryModeProgram ⟨rfl, rfl, rfl, hpast 0⟩
      fun s h => within_setFlag h (within_emShiftInc s.cfg.k)
  | rightToLeft | autoscrollOff =>
    exact entriesFit_entryModeProgram ⟨rfl, rfl, rfl, hpast 0⟩
      fun _ h => within_clearFlag h _
  | createChar location b bitmap =>
    have hlen : bitmap.length = 8 := by simpa [WellFormed, bitmapRows] using hw
    refine entriesFit_append (entriesFit_send ⟨rfl, rfl, rfl, hpast 0⟩ _ _)
      (entriesFit_bitmapProgram fun j hj => ?_)
    rw [hlen] at hj
    interval_cases j <;> exact ⟨rfl, rfl, rfl, hpast _⟩
  | backlightOn | backlightOff =>
    exact entriesFit_backlightProgram hi ⟨rfl, rfl⟩ _

/-! ## Acceptance and completion -/

theorem unpackBitmap_packBitmap {location b : Byte} {bitmap : List Byte}
    (h : WellFormed (.createChar location b bitmap) = true) :
    unpackBitmap (packBitmap bitmap) = bitmap := by
  obtain ⟨r0, r1, r2, r3, r4, r5, r6, r7, rfl⟩ := bitmap_rows h
  simp [unpackBitmap, bitmapRow_succ_cons, bitmapRow_zero_cons]

/-- What acceptance latches is read back (R30, R107, R110). -/
theorem decode_latched {i : Instr} (h : WellFormed i = true) :
    decode (packWord i.opcode i.operandA i.operandB) i.payload = .ok i := by
  unfold decode
  simp only [opField_packWord, aField_packWord, bField_packWord]
  cases i with
  | createChar location b bitmap =>
    exact congrArg (fun rows => Except.ok (Instr.createChar location b rows))
      (unpackBitmap_packBitmap h)
  | _ => rfl

theorem latchedInstr_latch {i : Instr} (h : WellFormed i = true) (s : State) :
    latchedInstr (latch i s) = some i :=
  toOption_eq_some.mpr (decode_latched h)

/-- The decoder answers well-formed commands only (R112). -/
theorem decode_wellFormed {w : CmdWord} {p : Payload} {i : Instr} (h : decode w p = .ok i) :
    WellFormed i = true := by
  rw [← packWord_fields w] at h
  exact (latchedInstr_legal (s := { State.reset with
    seq := ⟨true, opField w, aField w, bField w, p, 0⟩ }) (toOption_eq_some.mpr h)).2

/-- The update of a completion: `init_done <- 1` for `INIT`, none for the others (R173, R284). -/
theorem commandOf_atEnd (i : Instr) (s : State) :
    (commandOf i).atEnd s = { s with initDone := s.initDone || i.opcode == 0x01 } := by
  by_cases hi : i.opcode = 0x01
  · obtain ⟨a, b, p, rfl⟩ := opcode_eq_one_iff.mp hi
    simp [commandOf, Instr.opcode]
  · have hid : (commandOf i).atEnd = id := by
      cases i with
      | init => exact absurd rfl hi
      | _ => rfl
    rw [hid, beq_false_of_ne hi, Bool.or_false]
    rfl

theorem complete_commandOf (i : Instr) (s : State) :
    complete (commandOf i) s =
      { s with
        initDone := s.initDone || i.opcode == 0x01
        seq := { s.seq with busy := false }
        done := true
        doneStatus := (commandOf i).status s
        trace := s.trace ++ [.done i.opcode ((commandOf i).status s)] } := by
  simp [complete, commandOf_atEnd, State.emit]

theorem complete_initDone (i : Instr) (s : State) :
    (complete (commandOf i) s).initDone = (s.initDone || i.opcode == 0x01) := by
  rw [complete_commandOf]

/-! ## The invariant -/

theorem readyAt_of_inv {i : Instr} {s : State} (h : Inv s) (hb : s.seq.busy = true)
    (hi : latchedInstr s = some i) : ReadyAt i s.seq.upc.toNat s where
  control := h.controlBits
  mode := h.modeBits
  function := h.functionBits
  image := ⟨h.rwLow, h.backlightMirrored⟩
  dark ho hk := h.darkDuringInit hb ((latchedInstr_legal hi).1.trans ho) fun hz => hk (by rw [hz]; rfl)

/-- The invariant of a busy state, from its parts. -/
theorem inv_of_readyAt {i : Instr} {s : State} (hb : s.seq.busy = true)
    (hi : latchedInstr s = some i) (hu : s.seq.upc.toNat ≤ programLength i)
    (hr : ReadyAt i s.seq.upc.toNat s) (he : ∀ e ∈ s.trace, LegalEvent s.cfg e)
    (ho : phaseOf s.trace = some (phaseAt i s.seq.upc.toNat)) : Inv s where
  seqLegal _ := ⟨i, hi, hu⟩
  controlBits := hr.control
  modeBits := hr.mode
  functionBits := hr.function
  rwLow := hr.image.rwLow
  backlightMirrored := hr.image.backlight
  darkDuringInit _ hc hz :=
    hr.dark ((latchedInstr_legal hi).1.symm.trans hc) fun h => hz (BitVec.eq_of_toNat_eq h)
  eventsLegal := he
  orderKept := by rw [ho, seqPhase_busy hb hi]

theorem inv_lowerDone {s : State} (h : Inv s) : Inv (lowerDone s) :=
  ⟨h.seqLegal, h.controlBits, h.modeBits, h.functionBits, h.rwLow, h.backlightMirrored,
    h.darkDuringInit, h.eventsLegal, h.orderKept⟩

theorem inv_popPort {s : State} (h : Inv s) : Inv (popPort s) :=
  ⟨h.seqLegal, h.controlBits, h.modeBits, h.functionBits, h.rwLow, h.backlightMirrored,
    h.darkDuringInit, h.eventsLegal, h.orderKept⟩

/-- Acceptance opens a command at `upc = 0` (R141a). -/
theorem inv_latch {i : Instr} {s : State} (h : Inv s) (hb : s.seq.busy = false)
    (hw : WellFormed i = true) : Inv (latch i s) := by
  refine inv_of_readyAt rfl (latchedInstr_latch hw s) (Nat.zero_le _) ?_ ?_ ?_
  · exact ⟨h.controlBits, h.modeBits, h.functionBits, ⟨h.rwLow, h.backlightMirrored⟩,
      fun _ hk => absurd rfl hk⟩
  · simpa [LegalEvent, or_imp, forall_and] using h.eventsLegal
  · rw [latch_trace, phaseOf_append, h.orderKept, seqPhase_idle hb]
    exact congrArg some (phaseAt_start i).symm

/-- Completion closes the command at the end of its program (R141c). -/
theorem inv_complete {i : Instr} {s : State} (h : Inv s) (hb : s.seq.busy = true)
    (hi : latchedInstr s = some i) (hu : s.seq.upc.toNat = programLength i) :
    Inv (complete (commandOf i) s) := by
  rw [complete_commandOf]
  refine ⟨fun hf => (Bool.false_ne_true hf).elim, h.controlBits, h.modeBits, h.functionBits, h.rwLow,
    h.backlightMirrored, fun hf => (Bool.false_ne_true hf).elim, ?_, ?_⟩
  · simpa [LegalEvent, or_imp, forall_and] using h.eventsLegal
  · rw [phaseOf_append, h.orderKept, seqPhase_busy hb hi, hu, phaseAt_end]
    rfl

/-- Past `upc = 0` what the registers must meet is the same everywhere. -/
theorem ReadyAt.of_succ {i : Instr} {k : Nat} {s : State} (h : ReadyAt i (k + 1) s) (j : Nat) :
    ReadyAt i j s :=
  ⟨h.control, h.mode, h.function, h.image, fun hi _ => h.dark hi (Nat.succ_ne_zero k)⟩

theorem readyAt_perform {i : Instr} {k : Nat} {act : Action} {s : State} (h : ReadyAt i k s)
    (hb : ∀ y ∈ act.bytes, CarriesBacklight s.backlightValue y) : ReadyAt i k (perform act s) where
  control := by simpa using h.control
  mode := by simpa using h.mode
  function := by simpa using h.function
  image := by
    rw [perform_backlightValue, perform_registerImage]
    exact carriesBacklight_imageAfter h.image hb
  dark := by simpa using h.dark

@[simp] theorem perform_busy (act : Action) (s : State) :
    (perform act s).seq.busy = s.seq.busy := by
  rw [perform_seq]
  split <;> rfl

@[simp] theorem latchedInstr_perform (act : Action) (s : State) :
    latchedInstr (perform act s) = latchedInstr s := by
  apply latchedInstr_congr <;> · rw [perform_seq]; split <;> rfl

theorem perform_upc {act : Action} {s : State} (h : s.seq.upc.toNat < 63) :
    (perform act s).seq.upc.toNat =
      if act.movesOn s then s.seq.upc.toNat + 1 else s.seq.upc.toNat := by
  rw [perform_seq]
  split
  · change (s.seq.upc + 1).toNat = _
    rw [BitVec.toNat_add]
    exact Nat.mod_eq_of_lt (Nat.succ_lt_succ h)
  · rfl

theorem programLength_le (i : Instr) : programLength i ≤ 23 := by
  cases i <;> simp [programLength]

/-- Registers aside, an entry's update leaves the state as it is. -/
theorem entryUpdate_frame {i : Instr} {k : Nat} {m : MicroOp}
    (hm : (commandOf i).program[k]? = some m) (s : State) :
    (entryUpdate m s).seq = s.seq ∧ (entryUpdate m s).cfg = s.cfg ∧
      (entryUpdate m s).trace = s.trace ∧ (entryUpdate m s).initDone = s.initDone := by
  rw [commandOf_program_writesRegistersOnly i m (List.mem_of_getElem? hm) s]
  exact ⟨rfl, rfl, rfl, rfl⟩

theorem runMicroOp_trace {i : Instr} {k : Nat} {m : MicroOp}
    (hm : (commandOf i).program[k]? = some m) (s : State) :
    (runMicroOp m s).trace = s.trace ++ (m s).2.events (entryUpdate m s) := by
  obtain ⟨-, -, htrace, -⟩ := entryUpdate_frame hm s
  rw [runMicroOp_eq_perform, perform_trace, htrace]

theorem entryFits_at {i : Instr} {k : Nat} {m : MicroOp} (hw : WellFormed i = true)
    (hm : (commandOf i).program[k]? = some m) : EntryFits i k m := by
  have h := program_fits hw k m hm
  rwa [Nat.zero_add] at h

/-- A micro-operation keeps the invariant: its entry fits its place. -/
theorem inv_runMicroOp {i : Instr} {m : MicroOp} {s : State} (h : Inv s)
    (hb : s.seq.busy = true) (hi : latchedInstr s = some i)
    (hm : (commandOf i).program[s.seq.upc.toNat]? = some m) : Inv (runMicroOp m s) := by
  have hw := (latchedInstr_legal hi).2
  have hfits := entryFits_at hw hm
  have hready := hfits.update s (readyAt_of_inv h hb hi)
  have hbytes := hfits.bytes s hready
  have hlt : s.seq.upc.toNat < programLength i :=
    program_length hw ▸ (List.getElem?_eq_some_iff.mp hm).1
  obtain ⟨hseq, hcfg, htrace, -⟩ := entryUpdate_frame hm s
  have hupc := perform_upc (act := (m s).2) (s := entryUpdate m s)
    (by rw [hseq]; exact hlt.trans_le ((programLength_le i).trans (by decide)))
  rw [hseq] at hupc
  have hlatched : latchedInstr (entryUpdate m s) = some i := by
    rwa [latchedInstr_congr (s := s)] <;> rw [hseq]
  rw [runMicroOp_eq_perform]
  refine inv_of_readyAt (i := i) ?busy ?latched ?upc ?registers ?events ?order
  case busy => rwa [perform_busy, hseq]
  case latched => rwa [latchedInstr_perform]
  case upc =>
    rw [hupc]
    split <;> omega
  case registers => exact readyAt_perform (hready.of_succ _) hbytes
  case events =>
    rw [perform_trace, perform_cfg, hcfg, htrace]
    refine List.forall_mem_append.mpr ⟨h.eventsLegal, ?_⟩
    exact hcfg ▸ (hfits.order s).legalEvent hbytes (entryUpdate m s)
  case order =>
    rw [perform_trace, htrace, phaseOf_append, h.orderKept, seqPhase_busy hb hi, hupc]
    refine ((hfits.order s).phase_events (entryUpdate m s)).trans ?_
    split <;> rfl

/-- Settles O38: each of the four things a step can be keeps the invariant. -/
theorem stepKeepsTheInvariant : Obligations.StepKeepsTheInvariant := by
  intro s t hinv h
  have hlow := inv_lowerDone hinv
  rcases step_cases h with ⟨-, -, rfl⟩ | ⟨w, p, rest, i, hb, -, hd, rfl⟩ | ⟨i, m, hb, hi, hm, rfl⟩ |
    ⟨i, hb, hi, hu, rfl⟩
  · exact hlow
  · exact inv_latch (inv_popPort hlow) hb (decode_wellFormed hd)
  · exact inv_runMicroOp hlow hb hi hm
  · exact inv_complete hlow hb hi (hu.trans (program_length (latchedInstr_legal hi).2))

/-- Settles O37: the registers are zero, nothing is latched and the trace is empty. -/
theorem resetMeetsTheInvariant : Obligations.ResetMeetsTheInvariant where
  seqLegal hb := (Bool.false_ne_true hb).elim
  controlBits := within_zero _
  modeBits := within_zero _
  functionBits := within_zero _
  rwLow := carriesBacklight_zero.rwLow
  backlightMirrored := carriesBacklight_zero.backlight
  darkDuringInit hb := (Bool.false_ne_true hb).elim
  eventsLegal := List.forall_mem_nil _
  orderKept := rfl

theorem Action.bytes_of_tx_mem {act : Action} {s : State} {addr : BusAddr} {v : List Byte}
    {timeout : Nat} {status : Status} (h : Event.tx addr v timeout status ∈ act.events s) :
    act.bytes = v := by
  cases act with
  | tx w record =>
    simp only [Action.events, List.mem_singleton, Event.tx.injEq] at h
    exact h.2.1.symm
  | poll => cases hr : readyAnswer s <;> simp [Action.events, hr] at h
  | delay n => simp [Action.events] at h

/-- Settles O39: the bytes of an entry carry the backlight it leaves, and the image the step leaves
mirrors it. -/
theorem everyByteCarriesTheBacklight : Obligations.EveryByteCarriesTheBacklight := by
  intro s t hinv h
  have himage := (stepKeepsTheInvariant s t hinv h).backlightMirrored
  rcases step_cases h with ⟨-, -, rfl⟩ | ⟨w, p, rest, i, -, -, -, rfl⟩ | ⟨i, m, hb, hi, hm, rfl⟩ |
    ⟨i, -, -, -, rfl⟩
  · exact ⟨[], (List.append_nil _).symm, by simp⟩
  · exact ⟨_, latch_trace i _, by simp⟩
  · refine ⟨_, runMicroOp_trace hm (lowerDone s), fun addr v timeout status hv => ⟨?_, himage⟩⟩
    have hfits := entryFits_at (latchedInstr_legal hi).2 hm
    have hready := hfits.update (lowerDone s) (readyAt_of_inv (inv_lowerDone hinv) hb hi)
    rw [← Action.bytes_of_tx_mem hv, runMicroOp_eq_perform, perform_backlightValue]
    exact fun y hy => (hfits.bytes _ hready y hy).backlight
  · rw [complete_commandOf]
    exact ⟨_, rfl, by simp⟩

end Sys2Proof.Machine
end

section
/-! PROOFS. Who writes which register: the access table of the commands other than `INIT`
(10_state.md R36, R38), and `init_done`, which only the completion of `INIT` writes (R29). -/

namespace Sys2Proof.Machine

/-! ## The access table (R36) -/

/-- From `s` to `t` only registers are written that a command other than `INIT` owns: the backlight
commands `backlight_value`, the display-control commands `display_control`, the entry-mode commands
`display_mode`. -/
structure WritesOwn (i : Instr) (s t : State) : Prop where
  backlight : i.opcode ≠ 0x13 → i.opcode ≠ 0x14 → t.backlightValue = s.backlightValue
  control : ¬ (0x06 ≤ i.opcode ∧ i.opcode ≤ 0x0B) → t.displayControl = s.displayControl
  mode : ¬ (0x0E ≤ i.opcode ∧ i.opcode ≤ 0x11) → t.displayMode = s.displayMode
  function : t.displayFunction = s.displayFunction
  initFail : t.initFail = s.initFail
  initDone : t.initDone = s.initDone

/-- Whether a failure of the action is recorded (R131). -/
def Action.records : Action → Bool
  | .tx _ record => record
  | .poll | .delay _ => false

theorem perform_initFail {act : Action} (h : act.records = false) (s : State) :
    (perform act s).initFail = s.initFail := by
  cases act with
  | tx v record =>
    obtain rfl : record = false := h
    simp [perform]
  | poll => exact poll_initFail s
  | delay n => exact delay_initFail n s

/-- The entry updates registers its command owns and records no failure. -/
def EntryWritesOwn (i : Instr) (m : MicroOp) : Prop :=
  ∀ s, WritesOwn i s (entryUpdate m s) ∧ (m s).2.records = false

/-- An action that records nothing writes no register of the table. -/
theorem EntryWritesOwn.runMicroOp {i : Instr} {m : MicroOp} (h : EntryWritesOwn i m) (s : State) :
    WritesOwn i s (runMicroOp m s) := by
  obtain ⟨hu, hr⟩ := h s
  rw [runMicroOp_eq_perform]
  constructor
  · simpa using hu.backlight
  · simpa using hu.control
  · simpa using hu.mode
  · simpa using hu.function
  · exact (perform_initFail hr _).trans hu.initFail
  · simpa using hu.initDone

section Entries

variable {i : Instr}

theorem writesOwn_refl (s : State) : WritesOwn i s s :=
  ⟨fun _ _ => rfl, fun _ => rfl, fun _ => rfl, rfl, rfl, rfl⟩

theorem writesOwn_setDisplayControl (hi : 0x06 ≤ i.opcode ∧ i.opcode ≤ 0x0B) (v : Byte) (s : State) :
    WritesOwn i s (setDisplayControl v s) :=
  ⟨fun _ _ => rfl, fun h => absurd hi h, fun _ => rfl, rfl, rfl, rfl⟩

theorem writesOwn_setDisplayMode (hi : 0x0E ≤ i.opcode ∧ i.opcode ≤ 0x11) (v : Byte) (s : State) :
    WritesOwn i s (setDisplayMode v s) :=
  ⟨fun _ _ => rfl, fun _ => rfl, fun h => absurd hi h, rfl, rfl, rfl⟩

theorem writesOwn_setBacklight (hi : i.opcode = 0x13 ∨ i.opcode = 0x14) (v : Bit) (s : State) :
    WritesOwn i s (setBacklight v s) :=
  ⟨fun h13 h14 => (hi.elim h13 h14).elim, fun _ => rfl, fun _ => rfl, rfl, rfl, rfl⟩

theorem entryWritesOwn_pollOp : EntryWritesOwn i pollOp := fun s => ⟨writesOwn_refl s, rfl⟩

theorem entryWritesOwn_delayOp (n : Nat) : EntryWritesOwn i (delayOp n) :=
  fun s => ⟨writesOwn_refl s, rfl⟩

theorem entryWritesOwn_setCursorOp (col row : Byte) : EntryWritesOwn i (setCursorOp col row) := by
  refine fun s => ⟨?_, rfl⟩
  change WritesOwn i s (rowOffset row s).2
  rw [rowOffset_snd]
  exact ⟨fun _ _ => rfl, fun _ => rfl, fun _ => rfl, rfl, rfl, rfl⟩

theorem entriesWriteOwn_thenPoll {m : MicroOp} (hm : EntryWritesOwn i m) :
    ∀ n ∈ [m, pollOp], EntryWritesOwn i n :=
  List.forall_mem_cons.mpr ⟨hm, List.forall_mem_singleton.mpr entryWritesOwn_pollOp⟩

theorem entriesWriteOwn_updThenSend {f : State → State} (hf : ∀ s, WritesOwn i s (f s))
    (byte : State → Byte) (isData : Bit) : ∀ n ∈ updThenSend f byte isData, EntryWritesOwn i n :=
  entriesWriteOwn_thenPoll fun s => ⟨hf s, rfl⟩

theorem entriesWriteOwn_send (byte : State → Byte) (isData : Bit) :
    ∀ n ∈ send byte isData, EntryWritesOwn i n :=
  entriesWriteOwn_updThenSend (f := id) writesOwn_refl byte isData

theorem entriesWriteOwn_sendThenSettle (byte : State → Byte) :
    ∀ n ∈ sendThenSettle byte, EntryWritesOwn i n :=
  List.forall_mem_append.mpr
    ⟨entriesWriteOwn_send byte 0, List.forall_mem_singleton.mpr (entryWritesOwn_delayOp _)⟩

theorem entriesWriteOwn_bitmapProgram (bitmap : List Byte) :
    ∀ n ∈ bitmapProgram bitmap, EntryWritesOwn i n := by
  intro n hn
  obtain ⟨row, -, hrow⟩ := List.mem_flatMap.mp hn
  exact entriesWriteOwn_send _ _ n hrow

theorem entriesWriteOwn_backlightProgram (hi : i.opcode = 0x13 ∨ i.opcode = 0x14) (v : Bit) :
    ∀ n ∈ backlightProgram v, EntryWritesOwn i n :=
  List.forall_mem_singleton.mpr fun s => ⟨writesOwn_setBacklight hi v s, rfl⟩

end Entries

/-- Every entry of a command other than `INIT` keeps to its row of the table. -/
theorem program_writesOwn {i : Instr} (hi : i.opcode ≠ 0x01) :
    ∀ m ∈ (commandOf i).program, EntryWritesOwn i m := by
  cases i with
  | init => exact absurd rfl hi
  | writeByte | scrollLeft | scrollRight => exact entriesWriteOwn_send _ _
  | clear | home => exact entriesWriteOwn_sendThenSettle _
  | setCursor col row => exact entriesWriteOwn_thenPoll (entryWritesOwn_setCursorOp col row)
  | displayOn | displayOff | cursorOn | cursorOff | blinkOn | blinkOff =>
    exact entriesWriteOwn_updThenSend
      (fun s => writesOwn_setDisplayControl (by simp [Instr.opcode]) _ s) _ _
  | leftToRight | rightToLeft | autoscrollOn | autoscrollOff =>
    exact entriesWriteOwn_updThenSend
      (fun s => writesOwn_setDisplayMode (by simp [Instr.opcode]) _ s) _ _
  | createChar location b bitmap =>
    exact List.forall_mem_append.mpr
      ⟨entriesWriteOwn_send _ _, entriesWriteOwn_bitmapProgram bitmap⟩
  | backlightOn => exact entriesWriteOwn_backlightProgram (.inl rfl) _
  | backlightOff => exact entriesWriteOwn_backlightProgram (.inr rfl) _

/-- Every move of a command other than `INIT` keeps to its row of the table. -/
theorem exec_writesOwn {i : Instr} {s t : State} (h : exec i s = .next t) (hi : i.opcode ≠ 0x01) :
    WritesOwn i s t := by
  rw [exec_eq_runCommand] at h
  rcases runCommand_next h with ⟨-, -, rfl⟩ | ⟨-, m, hm, rfl⟩ | ⟨-, -, rfl⟩
  · exact ⟨fun _ _ => rfl, fun _ => rfl, fun _ => rfl, rfl, rfl, rfl⟩
  · exact (program_writesOwn hi m (List.mem_of_getElem? hm)).runMicroOp s
  · rw [complete_commandOf]
    exact ⟨fun _ _ => rfl, fun _ => rfl, fun _ => rfl, rfl, rfl,
      by rw [beq_false_of_ne hi, Bool.or_false]⟩

/-- Settles O41: the row of a command other than `INIT`, read for the opcodes that own nothing. -/
theorem accessTableWriters : Obligations.AccessTableWriters := by
  intro i s t h hi
  have hw := exec_writesOwn h hi
  refine ⟨⟨hw.function, hw.initFail, hw.initDone⟩, fun hop => ⟨hw.backlight ?_ ?_, hw.control ?_,
    hw.mode ?_⟩⟩ <;> bv_omega

/-- Settles O40: the four clauses are rows of the table. -/
theorem fieldsAreIndependent : Obligations.FieldsAreIndependent := by
  intro i s t h
  refine ⟨fun hop => ?backlight, fun hi h13 h14 => (exec_writesOwn h hi).backlight h13 h14,
    fun hlo hhi => ?control, fun hlo hhi => ?mode⟩
  case backlight =>
    have hw := exec_writesOwn h (by bv_omega)
    exact ⟨hw.function, hw.control (by bv_omega), hw.mode (by bv_omega), hw.initFail, hw.initDone⟩
  case control =>
    have hw := exec_writesOwn h (by bv_omega)
    exact ⟨hw.backlight (by bv_omega) (by bv_omega), hw.function, hw.mode (by bv_omega), hw.initFail,
      hw.initDone⟩
  case mode =>
    have hw := exec_writesOwn h (by bv_omega)
    exact ⟨hw.backlight (by bv_omega) (by bv_omega), hw.function, hw.control (by bv_omega),
      hw.initFail, hw.initDone⟩

/-! ## `init_done` -/

/-- No micro-operation writes `init_done` (R173). -/
theorem runMicroOp_initDone {i : Instr} {k : Nat} {m : MicroOp}
    (hm : (commandOf i).program[k]? = some m) (s : State) : (runMicroOp m s).initDone = s.initDone := by
  obtain ⟨-, -, -, hdone⟩ := entryUpdate_frame hm s
  rw [runMicroOp_eq_perform, perform_initDone, hdone]

theorem programLength_init {i : Instr} (hi : i.opcode = 0x01) : programLength i = 23 := by
  obtain ⟨a, b, p, rfl⟩ := opcode_eq_one_iff.mp hi
  rfl

/-- Settles O44: only a completion writes `init_done`, and only that of `INIT` sets it, which is at
`upc = 23`. -/
theorem initDoneIsSetByInitOnly : Obligations.InitDoneIsSetByInitOnly := by
  intro s t h
  rcases step_cases h with ⟨hb, -, rfl⟩ | ⟨w, p, rest, i, hb, -, -, rfl⟩ | ⟨i, m, hb, hi, hm, rfl⟩ |
    ⟨i, hb, hi, hu, rfl⟩
  · simp [hb]
  · simp [hb]
  · obtain ⟨hcmd, hw⟩ := latchedInstr_legal hi
    have hlt : s.seq.upc.toNat < programLength i :=
      program_length hw ▸ (List.getElem?_eq_some_iff.mp hm).1
    rw [runMicroOp_initDone hm, lowerDone_initDone]
    refine ⟨id, fun hd => iff_of_false (by simp [hd]) ?_⟩
    rintro ⟨-, hc, hu⟩
    rw [programLength_init (hcmd.symm.trans hc), hu] at hlt
    exact absurd hlt (by decide)
  · obtain ⟨hcmd, hw⟩ := latchedInstr_legal hi
    rw [program_length hw] at hu
    rw [complete_initDone, lowerDone_initDone]
    refine ⟨fun hd => by simp [hd], fun hd => ?_⟩
    simp only [hd, Bool.false_or, beq_iff_eq, hb, true_and, hcmd]
    refine ⟨fun ho => ⟨ho, BitVec.eq_of_toNat_eq ?_⟩, And.left⟩
    rw [hu, programLength_init ho]
    rfl

end Sys2Proof.Machine
end

section
/-! PROOFS. The expander's latch as an observer of the trace knows it (10_state.md R25, R33a; log 20):
a step appends one transmit, whose last byte is the new image, or no transmit at all. -/

namespace Sys2Proof.Machine

theorem imageAfter_append_singleton (image y : Byte) (v : List Byte) :
    imageAfter image (v ++ [y]) = y := by
  simp [imageAfter]

/-- The image is the last byte sent (R131). -/
theorem getLast?_eq_imageAfter {v : List Byte} (hv : v ≠ []) (image : Byte) :
    v.getLast? = some (imageAfter image v) := by
  obtain ⟨init, y, rfl⟩ := (List.eq_nil_or_concat v).resolve_left hv
  simp [imageAfter_append_singleton]

theorem expanderLatch_append (tr es : List Event) :
    expanderLatch (tr ++ es) = es.foldl Latch.after (expanderLatch tr) :=
  List.foldl_append

theorem txLists_append (tr es : List Event) : txLists (tr ++ es) = txLists tr ++ txLists es :=
  List.filterMap_append

/-- Events without a transmit leave the latch as it is. -/
theorem foldl_after_of_txLists_nil {es : List Event} (h : txLists es = []) (l : Latch) :
    es.foldl Latch.after l = l := by
  induction es generalizing l with
  | nil => rfl
  | cons e es ih =>
    cases e with
    | tx => simp [txLists] at h
    | accept | ready | delay | done => exact ih h l

/-- What a step appends: no transmit, or one transmit whose last byte is the image it leaves. -/
theorem step_events {s t : State} (h : step s = .next t) :
    ∃ es, t.trace = s.trace ++ es ∧ (txLists es = [] ∨ ∃ addr v timeout status,
      es = [.tx addr v timeout status] ∧ v.getLast? = some t.registerImage) := by
  rcases step_cases h with ⟨-, -, rfl⟩ | ⟨w, p, rest, i, -, -, -, rfl⟩ | ⟨i, m, hb, hi, hm, rfl⟩ |
    ⟨i, -, -, -, rfl⟩
  · exact ⟨[], (List.append_nil _).symm, .inl rfl⟩
  · exact ⟨_, latch_trace i _, .inl rfl⟩
  · refine ⟨_, runMicroOp_trace hm (lowerDone s), ?_⟩
    have horder := (entryFits_at (latchedInstr_legal hi).2 hm).order (lowerDone s)
    rw [runMicroOp_eq_perform, perform_registerImage]
    cases hact : (m (lowerDone s)).2 with
    | tx v record =>
      rw [hact] at horder
      obtain ⟨-, hlen⟩ := horder
      have hv : v ≠ [] := by
        rintro rfl
        simp at hlen
      exact .inr ⟨_, v, _, _, rfl, getLast?_eq_imageAfter hv _⟩
    | poll => exact .inl (by cases hr : readyAnswer (entryUpdate m (lowerDone s)) <;>
        simp [Action.events, hr, txLists])
    | delay n => exact .inl rfl
  · rw [complete_commandOf]
    exact ⟨_, rfl, .inl rfl⟩

/-- Settles O49: a delivered transmit leaves its last byte on the expander, which is the image. -/
theorem imageMirrorsTheExpander : Obligations.ImageMirrorsTheExpander := by
  intro s t h
  obtain ⟨es, htrace, hquiet | ⟨addr, v, timeout, status, rfl, hlast⟩⟩ := step_events h
  · have hno (addr v timeout status) : t.trace ≠ s.trace ++ [.tx addr v timeout status] := by
      intro heq
      obtain rfl := List.append_cancel_left (htrace.symm.trans heq)
      simp [txLists] at hquiet
    refine ⟨fun _ _ _ heq => absurd heq (hno _ _ _ _), fun _ _ _ heq => absurd heq (hno _ _ _ _),
      fun _ => ?_⟩
    rw [htrace, expanderLatch_append, foldl_after_of_txLists_nil hquiet]
  · refine ⟨fun _ _ _ heq => ?_, fun _ _ _ heq => ?_, fun heq => ?_⟩
    · cases List.append_cancel_left (htrace.symm.trans heq)
      simp [htrace, expanderLatch_append, Latch.after, hlast]
    · cases List.append_cancel_left (htrace.symm.trans heq)
      simp [htrace, expanderLatch_append, Latch.after]
    · rw [htrace, txLists_append] at heq
      simp [txLists] at heq

end Sys2Proof.Machine
end

section
/-! PROOFS. The services and the wire, one step at a time: where an answer comes from (20_memory.md R62;
logs 7, 8), what the controller latches (R71, R133), the growing trace (R75) and the barrier of a `send`
(R77). -/

namespace Sys2Proof.Machine

/-! ## Answers from a feed -/

section Feeds

variable {α : Type} {f : Feed α} {x : α} {xs : List α}

theorem Feed.answer_of_script (h : f.script = x :: xs) (free : α) : f.answer free = x := by
  simp [Feed.answer, h]

theorem Feed.rest_of_script (h : f.script = x :: xs) : f.rest = { f with script := xs } := by
  simp [Feed.rest, h]

theorem Feed.isFree_of_script (h : f.script = x :: xs) : f.isFree = false := by
  simp [Feed.isFree, h]

/-- Once its script is used up a feed stays as it is (log 7). -/
theorem Feed.rest_of_script_nil (h : f.script = []) : f.rest = f := by
  obtain ⟨script, after⟩ := f
  obtain rfl : script = [] := h
  rfl

theorem Feed.answer_of_after (h : f.script = []) (ha : f.after = some x) (free : α) :
    f.answer free = x := by
  simp [Feed.answer, h, ha]

theorem Feed.isFree_of_after (ha : f.after.isSome = true) : f.isFree = false := by
  simp [Feed.isFree, Option.isNone_eq_false_iff.mpr ha]

theorem Feed.answer_of_free (h : f.script = []) (ha : f.after = none) (free : α) :
    f.answer free = free := by
  simp [Feed.answer, h, ha]

theorem Feed.isFree_of_free (h : f.script = []) (ha : f.after = none) : f.isFree = true := by
  simp [Feed.isFree, h, ha]

end Feeds

/-- A status that is not free draws nothing. -/
theorem afterTxAnswer_of_not_free {s : State} (h : s.tx.isFree = false) :
    afterTxAnswer s = { s with tx := s.tx.rest } := by
  simp [afterTxAnswer, h]

theorem afterTxAnswer_of_free {s : State} (h : s.tx.isFree = true) :
    afterTxAnswer s = { s with tx := s.tx.rest, draws := s.draws + 1 } := by
  simp [afterTxAnswer, h]

/-- A ready answer that is not free draws nothing. -/
theorem afterReadyAnswer_of_not_free {s : State} (h : s.ready.isFree = false) :
    afterReadyAnswer s = { s with ready := s.ready.rest } := by
  simp [afterReadyAnswer, h]

theorem afterReadyAnswer_of_free {s : State} (h : s.ready.isFree = true) :
    afterReadyAnswer s = { s with ready := s.ready.rest, draws := s.draws + 1 } := by
  simp [afterReadyAnswer, h]

/-- Settles O18: the three shapes of a feed, for each of the two services. -/
theorem serviceAnswersComeFromTheFeeds : Obligations.ServiceAnswersComeFromTheFeeds := by
  intro s
  refine ⟨fun st rest h => ?txScript, fun st h ha => ?txAfter, fun h ha => ?txFree,
    fun r rest h => ?readyScript, fun r h ha => ?readyAfter, fun h ha => ?readyFree⟩
  case txScript =>
    refine ⟨Feed.answer_of_script h _, ?_⟩
    rw [afterTxAnswer_of_not_free (Feed.isFree_of_script h), Feed.rest_of_script h]
  case txAfter =>
    refine ⟨Feed.answer_of_after h ha _, ?_⟩
    rw [afterTxAnswer_of_not_free (Feed.isFree_of_after (Option.isSome_of_eq_some ha)),
      Feed.rest_of_script_nil h]
  case txFree =>
    refine ⟨Feed.answer_of_free h ha _, ?_⟩
    rw [afterTxAnswer_of_free (Feed.isFree_of_free h ha), Feed.rest_of_script_nil h]
  case readyScript =>
    refine ⟨Feed.answer_of_script h _, ?_⟩
    rw [afterReadyAnswer_of_not_free (Feed.isFree_of_script h), Feed.rest_of_script h]
  case readyAfter =>
    refine ⟨Feed.answer_of_after h ha _, ?_⟩
    rw [afterReadyAnswer_of_not_free (Feed.isFree_of_after (Option.isSome_of_eq_some ha)),
      Feed.rest_of_script_nil h]
  case readyFree =>
    refine ⟨Feed.answer_of_free h ha _, ?_⟩
    rw [afterReadyAnswer_of_free (Feed.isFree_of_free h ha), Feed.rest_of_script_nil h]

/-! ## Falling edges of EN -/

/-- A byte with EN high latches nothing (R71). -/
theorem latchedNibbles_cons_high {y : Byte} (h : (expanderFields y).en = 1) (en : Bit)
    (ys : List Byte) : latchedNibbles en (y :: ys) = latchedNibbles 1 ys := by
  simp [latchedNibbles, h]

/-- A byte with EN low after EN high latches its nibble (R71). -/
theorem latchedNibbles_cons_falling {y : Byte} (h : (expanderFields y).en = 0) (ys : List Byte) :
    latchedNibbles 1 (y :: ys) =
      ((expanderFields y).data, (expanderFields y).rs) :: latchedNibbles 0 ys := by
  simp [latchedNibbles, h]

/-- While EN stays low nothing is latched (R71). -/
theorem latchedNibbles_cons_low (y : Byte) (ys : List Byte) :
    latchedNibbles 0 (y :: ys) = latchedNibbles (expanderFields y).en ys := by
  simp [latchedNibbles]

/-- A nibble sent with an enable pulse is latched once (R133, R134). -/
theorem latchedNibbles_pulse (en : Bit) (data : Nibble) (rs bl : Bit) (ys : List Byte) :
    latchedNibbles en (compose data 1 rs bl :: compose data 0 rs bl :: ys) =
      (data, rs) :: latchedNibbles 0 ys := by
  rw [latchedNibbles_cons_high (by simp), latchedNibbles_cons_falling (by simp)]
  simp

theorem sentByte_frame (byte : Byte) (isData bl : Bit) :
    sentByte (frame byte isData bl) = some (byte, isData) := by
  simp [sentByte, frame]

/-- Settles O14: a frame is two enable pulses, a raw pair one, and a backlight write leaves EN low. -/
theorem controllerLatchesWhatIsSent : Obligations.ControllerLatchesWhatIsSent := by
  refine ⟨fun en byte isData bl => ⟨?frame, sentByte_frame byte isData bl⟩, fun en nib bl => ?pair,
    fun image v hen => ?backlight⟩
  case frame =>
    rw [frame, latchedNibbles_pulse, latchedNibbles_pulse]
    rfl
  case pair => exact latchedNibbles_pulse en nib 0 bl []
  case backlight =>
    rw [hen, latchedNibbles_cons_low]
    rfl

/-! ## The trace -/

/-- Settles O43: what a step does to the trace is to append events. -/
theorem traceOnlyGrows : Obligations.TraceOnlyGrows :=
  fun _ _ h => (step_events h).imp fun _ hes => hes.1

/-! ## The barrier of a `send` -/

/-- Only a `POLL` is allowed while the bus is waited for (R77). -/
theorem Action.Orders.eq_poll {q : Phase} {act : Action} (h : act.Orders .waiting q) :
    act = .poll := by
  cases act with
  | tx v record => exact absurd h.1 (by decide)
  | poll => rfl
  | delay n => exact absurd h.1 (by decide)

/-- Settles O48: at the wait the step is a micro-operation, and its place in the order makes it a
`POLL`. -/
theorem sendWaitsForTheBus : Obligations.SendWaitsForTheBus := by
  intro s t _ hwait h
  rcases step_cases h with ⟨hb, -, -⟩ | ⟨w, p, rest, i, hb, -, -, -⟩ | ⟨i, m, hb, hi, hm, rfl⟩ |
    ⟨i, hb, hi, hu, -⟩
  · simp [seqPhase_idle hb] at hwait
  · simp [seqPhase_idle hb] at hwait
  · have horder := (entryFits_at (latchedInstr_legal hi).2 hm).order (lowerDone s)
    rw [← seqPhase_busy hb hi, hwait] at horder
    obtain ⟨hseq, hcfg, htrace, -⟩ := entryUpdate_frame hm (lowerDone s)
    rw [runMicroOp_eq_perform, horder.eq_poll]
    simp only [perform, poll_trace, poll_seq, hseq, hcfg, htrace, lowerDone_seq, lowerDone_cfg,
      lowerDone_trace]
    cases hr : readyAnswer (entryUpdate m (lowerDone s)) with
    | true => exact .inl ⟨rfl, rfl⟩
    | false => exact .inr ⟨rfl, rfl⟩
  · rw [seqPhase_busy hb hi, hu, program_length (latchedInstr_legal hi).2, phaseAt_end] at hwait
    cases hwait

end Sys2Proof.Machine
end

section
/-! PROOFS. What the bus carries does not depend on what the services answer (20_memory.md R75d;
41_init_sequencer.md R174). The wire view of a state forgets the answers. A step of a block whose answers
are not free either leaves the wire view as it is (a `POLL` answered false) or takes it where the step of
the view itself goes. So the views a run passes through are iterates of one function, and an idle block with
nothing presented is a fixed point of it. -/

namespace Sys2Proof.Machine

/-! ## The wire view -/

/-- The transmits of a trace, with what an answer could change in them set aside. -/
def wireTrace (trace : List Event) : List Event := (txLists trace).map fun v => .tx 0 v 0 .ok

/-- `s` with every answer good from here on, and without what earlier answers have left in it: their
events, the recorded failure and the completion status. `preInit` is set to `run`, since a run that answers
a next state has refused nothing. -/
def wireView (s : State) : State :=
  { s with
    tx := ⟨[], some .ok⟩, ready := ⟨[], some true⟩, trace := wireTrace s.trace, initFail := false,
    done := false, doneStatus := .ok, preInit := .run }

@[simp] theorem wireView_seq (s : State) : (wireView s).seq = s.seq := rfl
@[simp] theorem wireView_cfg (s : State) : (wireView s).cfg = s.cfg := rfl
@[simp] theorem wireView_port (s : State) : (wireView s).port = s.port := rfl
@[simp] theorem wireView_preInit (s : State) : (wireView s).preInit = .run := rfl
@[simp] theorem wireView_trace (s : State) : (wireView s).trace = wireTrace s.trace := rfl
@[simp] theorem lowerDone_wireView (s : State) : lowerDone (wireView s) = wireView s := rfl

@[simp] theorem txLists_wireTrace (trace : List Event) : txLists (wireTrace trace) = txLists trace := by
  simp [wireTrace, txLists, List.filterMap_map]

@[simp] theorem wireTrace_wireTrace (trace : List Event) :
    wireTrace (wireTrace trace) = wireTrace trace :=
  congrArg (List.map _) (txLists_wireTrace trace)

/-- The wire view is what it shows of itself. -/
@[simp] theorem wireView_wireView (s : State) : wireView (wireView s) = wireView s := by
  simp [wireView]

/-- An event that is no transmit does not show. -/
theorem wireView_emit {e : Event} (h : txLists [e] = []) (s : State) :
    wireView (s.emit e) = wireView s := by
  simp [wireView, wireTrace, State.emit, txLists_append, h]

theorem wireView_advance (s : State) : wireView s.advance = (wireView s).advance := rfl

/-! ## Feeds that never run out -/

/-- No answer will be a free value. -/
structure NeverFree (s : State) : Prop where
  tx : s.tx.after.isSome = true
  ready : s.ready.after.isSome = true

theorem perform_feeds_after (act : Action) (s : State) :
    (perform act s).tx.after = s.tx.after ∧ (perform act s).ready.after = s.ready.after := by
  cases act with
  | tx v record => simp [perform, Feed.rest]
  | poll => simp [perform, Feed.rest]
  | delay n => exact ⟨rfl, rfl⟩

theorem entryUpdate_feeds {i : Instr} {k : Nat} {m : MicroOp}
    (hm : (commandOf i).program[k]? = some m) (s : State) :
    (entryUpdate m s).tx = s.tx ∧ (entryUpdate m s).ready = s.ready := by
  rw [commandOf_program_writesRegistersOnly i m (List.mem_of_getElem? hm) s]
  exact ⟨rfl, rfl⟩

theorem neverFree_entryUpdate {i : Instr} {k : Nat} {m : MicroOp}
    (hm : (commandOf i).program[k]? = some m) {s : State} (h : NeverFree s) :
    NeverFree (entryUpdate m s) := by
  obtain ⟨htx, hready⟩ := entryUpdate_feeds hm s
  exact ⟨by rw [htx]; exact h.tx, by rw [hready]; exact h.ready⟩

theorem neverFree_perform {act : Action} {s : State} (h : NeverFree s) : NeverFree (perform act s) := by
  obtain ⟨htx, hready⟩ := perform_feeds_after act s
  exact ⟨by rw [htx]; exact h.tx, by rw [hready]; exact h.ready⟩

/-- Taking answers never uses up the constants behind the scripts. -/
theorem neverFree_step {s t : State} (hs : NeverFree s) (h : step s = .next t) : NeverFree t := by
  rcases step_cases h with ⟨-, -, rfl⟩ | ⟨w, p, rest, i, -, -, -, rfl⟩ | ⟨i, m, -, -, hm, rfl⟩ |
    ⟨i, -, -, -, rfl⟩
  · exact ⟨hs.tx, hs.ready⟩
  · exact ⟨hs.tx, hs.ready⟩
  · rw [runMicroOp_eq_perform]
    exact neverFree_perform (neverFree_entryUpdate hm ⟨hs.tx, hs.ready⟩)
  · rw [complete_commandOf]
    exact ⟨hs.tx, hs.ready⟩

theorem neverFree_wireView (s : State) : NeverFree (wireView s) := ⟨rfl, rfl⟩

/-! ## Actions -/

/-- A transmit, delivered or not, shows its list (R131). -/
theorem wireView_transmit {s : State} (h : NeverFree s) (v : List Byte) (record : Bool) :
    wireView (transmit v record s) =
      { wireView s with
        registerImage := imageAfter s.registerImage v
        seq := { s.seq with upc := s.seq.upc + 1 }
        trace := wireTrace s.trace ++ [.tx 0 v 0 .ok] } := by
  have htrace : wireTrace (s.trace ++ [.tx s.cfg.addr v busTimeout (txAnswer s)]) =
      wireTrace s.trace ++ [.tx 0 v 0 .ok] := by
    simp [wireTrace, txLists]
  rw [transmit_eq, afterTxAnswer_of_not_free (Feed.isFree_of_after h.tx)]
  simp [wireView, htrace]

theorem wireView_busReady {s : State} (h : NeverFree s) : wireView (busReady s) = wireView s := by
  rw [busReady, wireView_emit rfl, afterReadyAnswer_of_not_free (Feed.isFree_of_after h.ready)]
  rfl

/-- A `POLL` shows only that it has moved on (R135). -/
theorem wireView_poll {s : State} (h : NeverFree s) :
    wireView (poll s) = if readyAnswer s then (wireView s).advance else wireView s := by
  cases hr : readyAnswer s with
  | true => rw [poll_true hr, wireView_advance, wireView_busReady h, if_pos rfl]
  | false => rw [poll_false hr, delayService, wireView_emit rfl, wireView_busReady h]; rfl

theorem wireView_delay (n : Nat) (s : State) : wireView (delay n s) = (wireView s).advance := by
  rw [delay, wireView_advance, delayService, wireView_emit rfl]

/-- What an action shows: nothing while it stays, and once it moves on what it shows from the wire view. -/
theorem wireView_perform {s : State} (h : NeverFree s) (act : Action) :
    wireView (perform act s) =
      if act.movesOn s then wireView (perform act (wireView s)) else wireView s := by
  have hview := neverFree_wireView s
  cases act with
  | tx v record =>
    simp only [perform, Action.movesOn, wireView_transmit h, wireView_transmit hview,
      wireView_wireView, wireView_trace, wireTrace_wireTrace]
    rfl
  | poll =>
    simp only [perform, Action.movesOn, wireView_poll h, wireView_poll hview, wireView_wireView]
    rfl
  | delay n => simp only [perform, Action.movesOn, wireView_delay, wireView_wireView, if_true]

/-! ## Entries -/

/-- The update and the action of the entry depend on no answer, and a `POLL`, which may run again, updates
nothing. -/
structure AnswerBlind (m : MicroOp) : Prop where
  update : ∀ s, entryUpdate m (wireView s) = wireView (entryUpdate m s)
  action : ∀ s, (m (wireView s)).2 = (m s).2
  poll : ∀ s, (m s).2 = .poll → entryUpdate m s = s

theorem answerBlind_plain {act : State → Action} (h : ∀ s, act (wireView s) = act s) :
    AnswerBlind (plain act) :=
  ⟨fun _ => rfl, h, fun _ _ => rfl⟩

theorem answerBlind_pollOp : AnswerBlind pollOp := answerBlind_plain fun _ => rfl

theorem answerBlind_delayOp (n : Nat) : AnswerBlind (delayOp n) := answerBlind_plain fun _ => rfl

theorem answerBlind_frameOp {f : State → State} {byte : State → Byte} (isData : Bit)
    (hf : ∀ s, f (wireView s) = wireView (f s)) (hb : ∀ s, byte (wireView s) = byte s) :
    AnswerBlind (updThen f (frameOp byte isData)) where
  update := hf
  action s := by
    change Action.tx (frame (byte (f (wireView s))) isData (f (wireView s)).backlightValue) false = _
    rw [hf, hb]
    rfl
  poll _ := nofun

theorem rowOffset_wireView (row : Byte) (s : State) :
    rowOffset row (wireView s) = ((rowOffset row s).1, wireView (rowOffset row s).2) := by
  unfold rowOffset
  rw [wireView_cfg]
  split
  · rfl
  · rfl

theorem answerBlind_setCursorOp (col row : Byte) : AnswerBlind (setCursorOp col row) where
  update s := congrArg Prod.snd (rowOffset_wireView row s)
  action s := by
    simp only [setCursorOp, rowOffset_wireView]
    rfl
  poll _ := nofun

theorem answerBlind_thenPoll {m : MicroOp} (hm : AnswerBlind m) : ∀ n ∈ [m, pollOp], AnswerBlind n :=
  List.forall_mem_cons.mpr ⟨hm, List.forall_mem_singleton.mpr answerBlind_pollOp⟩

theorem answerBlind_updThenSend {f : State → State} {byte : State → Byte} (isData : Bit)
    (hf : ∀ s, f (wireView s) = wireView (f s)) (hb : ∀ s, byte (wireView s) = byte s) :
    ∀ n ∈ updThenSend f byte isData, AnswerBlind n :=
  answerBlind_thenPoll (answerBlind_frameOp isData hf hb)

theorem answerBlind_send {byte : State → Byte} (isData : Bit)
    (hb : ∀ s, byte (wireView s) = byte s) : ∀ n ∈ send byte isData, AnswerBlind n :=
  answerBlind_updThenSend (f := id) isData (fun _ => rfl) hb

theorem answerBlind_sendThenSettle {byte : State → Byte} (hb : ∀ s, byte (wireView s) = byte s) :
    ∀ n ∈ sendThenSettle byte, AnswerBlind n :=
  List.forall_mem_append.mpr
    ⟨answerBlind_send 0 hb, List.forall_mem_singleton.mpr (answerBlind_delayOp _)⟩

theorem answerBlind_bitmapProgram (bitmap : List Byte) :
    ∀ n ∈ bitmapProgram bitmap, AnswerBlind n := by
  intro n hn
  obtain ⟨row, -, hrow⟩ := List.mem_flatMap.mp hn
  exact answerBlind_send 1 (fun _ => rfl) n hrow

theorem answerBlind_backlightProgram (v : Bit) : ∀ n ∈ backlightProgram v, AnswerBlind n :=
  List.forall_mem_singleton.mpr ⟨fun _ => rfl, fun _ => rfl, fun _ => nofun⟩

/-- Steps 1 to 6 of `INIT`: after the first the entries are plain (R161 to R166). -/
theorem answerBlind_initRawProgram : ∀ n ∈ initRawProgram, AnswerBlind n := by
  have htail : ∀ n ∈ initRawProgram.tail, ∃ act, n = plain act ∧ ∀ s, act (wireView s) = act s := by
    simp only [initRawProgram, List.tail_cons, List.forall_mem_cons, List.not_mem_nil,
      false_implies, implies_true, and_true]
    and_intros <;> exact ⟨_, rfl, fun _ => rfl⟩
  refine List.forall_mem_cons.mpr ⟨⟨fun _ => rfl, fun _ => rfl, fun _ => nofun⟩, fun n hn => ?_⟩
  obtain ⟨act, rfl, hact⟩ := htail n hn
  exact answerBlind_plain hact

/-- The five `send`s of step 7 of `INIT` (R167). -/
theorem answerBlind_initSendProgram : ∀ n ∈ initSendProgram, AnswerBlind n := by
  simp only [initSendProgram, List.forall_mem_append]
  exact ⟨⟨⟨⟨answerBlind_send 0 fun _ => rfl,
    answerBlind_updThenSend 0 (fun _ => rfl) fun _ => rfl⟩,
    answerBlind_sendThenSettle fun _ => rfl⟩,
    answerBlind_updThenSend 0 (fun _ => rfl) fun _ => rfl⟩,
    answerBlind_sendThenSettle fun _ => rfl⟩

/-- No entry of any micro-program looks at an answer (R284, R286). -/
theorem program_answerBlind (i : Instr) : ∀ m ∈ (commandOf i).program, AnswerBlind m := by
  cases i with
  | init =>
    exact List.forall_mem_append.mpr ⟨answerBlind_initRawProgram, answerBlind_initSendProgram⟩
  | writeByte | scrollLeft | scrollRight => exact answerBlind_send _ fun _ => rfl
  | clear | home => exact answerBlind_sendThenSettle fun _ => rfl
  | setCursor col row => exact answerBlind_thenPoll (answerBlind_setCursorOp col row)
  | displayOn | displayOff | cursorOn | cursorOff | blinkOn | blinkOff
  | leftToRight | rightToLeft | autoscrollOn | autoscrollOff =>
    exact answerBlind_updThenSend 0 (fun _ => rfl) fun _ => rfl
  | createChar location b bitmap =>
    exact List.forall_mem_append.mpr
      ⟨answerBlind_send 0 fun _ => rfl, answerBlind_bitmapProgram bitmap⟩
  | backlightOn | backlightOff => exact answerBlind_backlightProgram _

theorem Action.eq_poll_of_stays {act : Action} {s : State} (h : act.movesOn s = false) :
    act = .poll := by
  cases act with
  | tx => cases h
  | poll => rfl
  | delay => cases h

/-- What an entry shows: nothing, or what it shows from the wire view. -/
theorem wireView_runMicroOp {m : MicroOp} (hm : AnswerBlind m) {s : State}
    (h : NeverFree (entryUpdate m s)) :
    wireView (runMicroOp m s) = wireView s ∨
      wireView (runMicroOp m s) = wireView (runMicroOp m (wireView s)) := by
  simp only [runMicroOp_eq_perform, hm.update, hm.action, wireView_perform h]
  cases hmoves : (m s).2.movesOn (entryUpdate m s) with
  | true => exact .inr rfl
  | false =>
    rw [hm.poll s (Action.eq_poll_of_stays hmoves)]
    exact .inl rfl

/-! ## Acceptance and completion -/

theorem wireView_latch (i : Instr) (s : State) :
    wireView (latch i s) = wireView (latch i (wireView s)) := by
  rw [latch, latch, wireView_emit rfl, wireView_emit rfl]
  exact (wireView_wireView _).symm

theorem wireView_complete (i : Instr) (s : State) :
    wireView (complete (commandOf i) s) = wireView (complete (commandOf i) (wireView s)) := by
  simp only [complete, wireView_emit (e := .done _ _) rfl, commandOf_atEnd]
  exact (wireView_wireView _).symm

/-! ## Steps and runs -/

/-- The wire view one step on; a state that has no next one stays. -/
def wireNext (s : State) : State :=
  match step s with
  | .next t => wireView t
  | .fault _ => s
  | .refused _ => s

theorem wireNext_of_step {s t : State} (h : step s = .next t) : wireNext s = wireView t := by
  simp [wireNext, h]

/-- On the wire a step is nothing, or the next step of the wire view. -/
theorem wireView_step {s t : State} (hs : NeverFree s) (h : step s = .next t) :
    wireView t = wireView s ∨ wireView t = wireNext (wireView s) := by
  rcases step_cases h with ⟨-, -, rfl⟩ | ⟨w, p, rest, i, hb, hp, hd, rfl⟩ | ⟨i, m, hb, hi, hm, rfl⟩ |
    ⟨i, hb, hi, hu, rfl⟩
  · exact .inl rfl
  · have hnext : step (wireView s) = .next (latch i (popPort (wireView s))) := by
      rw [step_idle (s := wireView s) hb hp hd, exec_eq_runCommand, lowerDone_wireView]
      simp [runCommand, accept, hb]
    rw [wireNext_of_step hnext, wireView_latch]
    exact .inr rfl
  · have hnext : step (wireView s) = .next (runMicroOp m (wireView s)) := by
      rw [step_busy (s := wireView s) hb hi, exec_eq_runCommand, lowerDone_wireView]
      exact runCommand_at hb hm
    rw [wireNext_of_step hnext]
    exact wireView_runMicroOp (program_answerBlind i m (List.mem_of_getElem? hm))
      (neverFree_entryUpdate hm (s := lowerDone s) ⟨hs.tx, hs.ready⟩)
  · have hnext : step (wireView s) = .next (complete (commandOf i) (wireView s)) := by
      rw [step_busy (s := wireView s) hb hi, exec_eq_runCommand, lowerDone_wireView]
      exact runCommand_end hb hu
    rw [wireNext_of_step hnext, wireView_complete]
    exact .inr rfl

/-- A run of one step more begins with a step. -/
theorem run_succ_next {M : Host.Core} {s t : M.State} {n : Nat} (h : M.run (n + 1) s = .next t) :
    ∃ u, M.step s = .next u ∧ M.run n u = .next t := by
  rw [Host.Core.run] at h
  cases hs : M.step s with
  | next u => exact ⟨u, rfl, by rwa [hs] at h⟩
  | fault | refused => simp [hs] at h

/-- The wire views of a run are iterates of `wireNext`. -/
theorem wireView_runSteps {s t : State} {n : Nat} (hs : NeverFree s) (h : runSteps n s = .next t) :
    ∃ m, wireView t = wireNext^[m] (wireView s) := by
  induction n generalizing s with
  | zero =>
    cases h
    exact ⟨0, rfl⟩
  | succ n ih =>
    obtain ⟨u, hu, hrun⟩ := run_succ_next (M := Sys2Proof.core) h
    obtain ⟨m, hm⟩ := ih (neverFree_step hs hu) hrun
    rcases wireView_step hs hu with heq | heq
    · exact ⟨m, by rw [hm, heq]⟩
    · exact ⟨m + 1, by rw [hm, heq, Function.iterate_succ_apply]⟩

/-- An idle block with nothing presented shows nothing more (R105). -/
theorem wireView_isFixedPt {s : State} (hb : s.seq.busy = false) (hp : s.port = []) :
    Function.IsFixedPt wireNext (wireView s) := by
  have hstep : step (wireView s) = .next (wireView s) := by
    have hf : fetch (wireView s) = .nothing := by simp [fetch, hb, hp]
    simp only [step, lowerDone_wireView, hf]
  rw [Function.IsFixedPt, wireNext_of_step hstep, wireView_wireView]

/-- Two fixed points that iteration reaches from one start are the same. -/
theorem eq_of_iterate_isFixedPt {α : Type} {f : α → α} {x : α} {m n : Nat}
    (hm : Function.IsFixedPt f (f^[m] x)) (hn : Function.IsFixedPt f (f^[n] x)) :
    f^[m] x = f^[n] x := by
  calc f^[m] x = f^[n] (f^[m] x) := (hm.iterate n).eq.symm
    _ = f^[m] (f^[n] x) := Function.Commute.iterate_iterate_self f n m x
    _ = f^[n] x := (hn.iterate m).eq

/-- Settles O36: both runs show iterates of one function from one start, and end in fixed points of it. -/
theorem wireIndependentOfAnswers : Obligations.WireIndependentOfAnswers := by
  intro s tx' ready' n n' t t' htx hready htx' hready' h h' hb hp hb' hp'
  obtain ⟨m, hm⟩ := wireView_runSteps ⟨htx, hready⟩ h
  obtain ⟨m', hm'⟩ := wireView_runSteps ⟨htx', hready'⟩ h'
  have hview : wireView t = wireView t' := by
    rw [hm, hm']
    exact eq_of_iterate_isFixedPt (hm ▸ wireView_isFixedPt hb hp) (hm' ▸ wireView_isFixedPt hb' hp')
  have shown {α : Type} (field : State → α) : field (wireView t) = field (wireView t') :=
    congrArg field hview
  have hlists := shown fun u => txLists u.trace
  simp only [wireView_trace, txLists_wireTrace] at hlists
  exact ⟨hlists, shown State.backlightValue, shown State.displayFunction, shown State.displayControl,
    shown State.displayMode, shown State.registerImage⟩

end Sys2Proof.Machine
end

section
/-! PROOFS. The decoder and the encoder are inverse to each other on the well-formed commands, and the
words the decoder does not read are those with a reserved opcode (30_encoding.md R107, R110 to R112). -/

namespace Sys2Proof.Machine

/-! ## The payload as a bitmap (R107) -/

theorem unpackBitmap_eq_map (p : Payload) : unpackBitmap p = (List.range 8).map (bitmapRow p) := rfl

/-- A payload has no bit outside its eight rows. -/
theorem unpackBitmap_injective : Function.Injective unpackBitmap := by
  intro p q h
  have hrows : ∀ i < 8, bitmapRow p i = bitmapRow q i := by
    simpa only [unpackBitmap_eq_map, List.map_inj_left, List.mem_range] using h
  apply BitVec.eq_of_getLsbD_eq
  intro j hj
  have hbit := congrArg (BitVec.getLsbD · (j % 8)) (hrows (j / 8) (by omega))
  simpa [bitmapRow, BitVec.getLsbD_extractLsb', Nat.mod_lt, Nat.div_add_mod] using hbit

theorem packBitmap_unpackBitmap (p : Payload) : packBitmap (unpackBitmap p) = p :=
  unpackBitmap_injective (unpackBitmap_packBitmap (location := 0) (b := 0) rfl)

/-! ## The words the decoder reads -/

/-- The command a word selects holds each field of it: row by row of the table (R107, R110). -/
theorem decode_fields {w : CmdWord} {p : Payload} {i : Instr} (h : decode w p = .ok i) :
    i.opcode = opField w ∧ i.operandA = aField w ∧ i.operandB = bField w ∧ i.payload = p := by
  unfold decode at h
  split at h
  -- `CREATE_CHAR`, the one row that reads the payload.
  case h_18 hop =>
    cases h
    exact ⟨hop.symm, rfl, rfl, packBitmap_unpackBitmap p⟩
  case h_21 => cases h
  all_goals
    next hop =>
      cases h
      exact ⟨hop.symm, rfl, rfl, rfl⟩

theorem encode_of_decode {w : CmdWord} {p : Payload} {i : Instr} (h : decode w p = .ok i) :
    encode i = (w, p) := by
  obtain ⟨hop, ha, hb, hp⟩ := decode_fields h
  rw [encode, hop, ha, hb, hp, packWord_fields]

/-- Decoding is the inverse of encoding the well-formed commands. -/
theorem decode_eq_ok_iff {w : CmdWord} {p : Payload} {i : Instr} :
    decode w p = .ok i ↔ WellFormed i = true ∧ encode i = (w, p) := by
  refine ⟨fun h => ⟨decode_wellFormed h, encode_of_decode h⟩, fun ⟨hw, he⟩ => ?_⟩
  cases he
  exact decode_latched hw

/-- Settles O1: an encoded word holds the opcode and the operands, and a packed bitmap its rows. -/
theorem encodedCommandDecodesToItself : Obligations.EncodedCommandDecodesToItself :=
  fun _ hw => decode_eq_ok_iff.mpr ⟨hw, rfl⟩

/-- Settles O2: a word is the packing of the fields the command holds. -/
theorem decodedWordEncodesBack : Obligations.DecodedWordEncodesBack :=
  fun _ _ _ h => decode_eq_ok_iff.mp h

/-! ## The reserved opcodes (R111) -/

/-- The only error names the opcode. -/
theorem eq_reservedOpcode_of_decode {w : CmdWord} {p : Payload} {e : DecodeError}
    (h : decode w p = .error e) : e = .reservedOpcode (opField w) := by
  unfold decode at h
  split at h
  case h_21 =>
    cases h
    rfl
  all_goals cases h

theorem decode_reserved {w : CmdWord} (h : opField w = 0x00 ∨ 0x15 ≤ opField w) (p : Payload) :
    decode w p = .error (.reservedOpcode (opField w)) := by
  cases hd : decode w p with
  | error e => rw [eq_reservedOpcode_of_decode hd]
  | ok i =>
    obtain ⟨hop, -⟩ := decode_fields hd
    obtain ⟨hlo, hhi⟩ := Laws.EncodedWord.opcode_range i
    rw [hop] at hlo hhi
    bv_omega

/-- Every assigned opcode selects a command, whatever the operands (R112). -/
theorem decode_assigned {w : CmdWord} (hlo : 0x01 ≤ opField w) (hhi : opField w ≤ 0x14)
    (p : Payload) : ∃ i, decode w p = .ok i := by
  unfold decode
  split
  case h_21 =>
    exfalso
    simp only [imp_false] at *
    bv_omega
  all_goals exact ⟨_, rfl⟩

/-- While idle a reserved opcode on the port is refused, and no state follows (R111). -/
theorem step_reserved {s : State} {w : CmdWord} {p : Payload} {rest : List (CmdWord × Payload)}
    (hb : s.seq.busy = false) (hp : s.port = (w, p) :: rest)
    (hop : opField w = 0x00 ∨ 0x15 ≤ opField w) :
    step s = .refused (.reservedOpcode (opField w)) := by
  have hf : fetch (lowerDone s) = .reserved (opField w) := by
    simp [fetch, hb, hp, decode_reserved hop p]
  simp only [step, hf]

/-- Settles O5: the decoder has no row for the opcode, so the block has nothing to run. -/
theorem reservedOpcodesRefused : Obligations.ReservedOpcodesRefused :=
  fun _ _ p _ hop => ⟨decode_reserved hop p, fun hb hp => step_reserved hb hp hop⟩

/-! ## The opcode table (R110) -/

theorem packWord_and (op a b op' a' b' : Byte) :
    packWord op a b &&& packWord op' a' b' = packWord (op &&& op') (a &&& a') (b &&& b') :=
  (BitVec.and_append (x₁ := op ++ a)).trans (congrArg (· ++ (b &&& b')) BitVec.and_append)

/-- The mask of the table keeps the opcode alone. -/
theorem and_opMask (w : CmdWord) : w &&& 0xFF0000 = packWord (opField w) 0 0 := by
  have hmask : (0xFF0000 : CmdWord) = packWord (BitVec.allOnes 8) 0#8 0#8 := rfl
  have hfields := packWord_and (opField w) (aField w) (bField w) (BitVec.allOnes 8) 0#8 0#8
  rwa [packWord_fields, ← hmask, BitVec.and_allOnes, BitVec.and_zero, BitVec.and_zero] at hfields

theorem opField_eq_iff {w : CmdWord} {op : Byte} : opField w = op ↔ ∃ a b, w = packWord op a b := by
  constructor
  · rintro rfl
    exact ⟨aField w, bField w, (packWord_fields w).symm⟩
  · rintro ⟨a, b, rfl⟩
    exact opField_packWord op a b

theorem and_opMask_eq_iff {w : CmdWord} {op : Byte} :
    w &&& 0xFF0000 = packWord op 0 0 ↔ opField w = op := by
  rw [and_opMask]
  refine ⟨fun h => ?_, fun h => by rw [h]⟩
  simpa only [opField_packWord] using congrArg opField h

theorem decode_createChar (a b : Byte) (p : Payload) :
    decode (packWord 0x12 a b) p = .ok (.createChar a b (unpackBitmap p)) :=
  decode_eq_ok_iff.mpr ⟨rfl, congrArg (packWord 0x12 a b, ·) (packBitmap_unpackBitmap p)⟩

theorem getElem?_unpackBitmap (p : Payload) {i : Nat} (hi : i < 8) :
    (unpackBitmap p)[i]? = some (p.extractLsb' (8 * i) 8) := by
  rw [unpackBitmap_eq_map, List.getElem?_map, List.getElem?_range hi]
  rfl

/-- Settles O3: each row's word is the encoding of its command, and the mask reads the opcode. -/
theorem commandTableSelects : Obligations.CommandTableSelects := by
  refine ⟨fun a b p => ⟨?_, ?_, ?_, ?_, ?_, ?_, ?_, ?_, ?_, ?_, ?_, ?_, ?_, ?_, ?_, ?_, ?_, ?createChar,
    ?_, ?_⟩, fun w op => and_opMask_eq_iff.trans opField_eq_iff⟩
  case createChar =>
    exact ⟨unpackBitmap p, decode_createChar a b p, rfl, fun i hi => getElem?_unpackBitmap p hi⟩
  all_goals exact decode_eq_ok_iff.mpr ⟨rfl, rfl⟩

/-- Settles O4: the words with a meaning are encodings, the others have a reserved opcode. -/
theorem decodedWordsOfTheSpec : Obligations.DecodedWordsOfTheSpec := by
  refine ⟨fun p => ⟨?_, ?_, ?_, ?_, ?_, ?_, decode_reserved (.inl rfl) p,
    decode_reserved (.inr (by decide)) p, decode_reserved (.inr (by decide)) p⟩, ?_⟩
  all_goals
    refine decode_eq_ok_iff.mpr ⟨rfl, Prod.ext ?_ rfl⟩
    simp only [encode, Instr.opcode, Instr.operandA, Instr.operandB]
    rfl

/-! ## The unused fields (R112) -/

/-- While busy a move depends on the command's program, opcode, completion update and status alone
(R141). -/
theorem runCommand_congr {c c' : Command} {s : State} (hb : s.seq.busy = true)
    (hprog : c.program = c'.program) (hop : c.instr.opcode = c'.instr.opcode)
    (hend : c.atEnd = c'.atEnd) (hstatus : c.status = c'.status) : runCommand c s = runCommand c' s := by
  have hcomplete : complete c s = complete c' s := by simp only [complete, hop, hend, hstatus]
  simp only [runCommand, hb, if_true, hprog, hcomplete]

/-- Two commands with the same moves once accepted. -/
theorem exec_congr {i j : Instr} {s : State} (hb : s.seq.busy = true)
    (hprog : (commandOf i).program = (commandOf j).program) (hop : i.opcode = j.opcode)
    (hend : (commandOf i).atEnd = (commandOf j).atEnd)
    (hstatus : (commandOf i).status = (commandOf j).status) : exec i s = exec j s := by
  rw [exec_eq_runCommand, exec_eq_runCommand]
  exact runCommand_congr hb hprog (by rwa [commandOf_instr, commandOf_instr]) hend hstatus

/-- Settles O6: an unused field stands in no program, and each opcode has its row. -/
theorem unusedFieldsAreIgnored : Obligations.UnusedFieldsAreIgnored := by
  refine ⟨fun w p hlo hhi => decode_assigned hlo hhi p,
    fun x y a b a' b' p p' bitmap s hb => ?_⟩
  and_intros
  all_goals exact exec_congr hb rfl rfl rfl rfl

end Sys2Proof.Machine
end

section
/-! PROOFS. The command port, one step at a time: the ready/valid handshake (30_encoding.md R105), the
latches of the sequencer (10_state.md R30) and the completion with its status (R106; 60_exceptions.md
R283, R284). -/

namespace Sys2Proof.Machine

/-! ## Acceptance -/

/-- While idle a move is an acceptance (R141a). -/
theorem exec_idle {s : State} (hb : s.seq.busy = false) (i : Instr) : exec i s = accept i s := by
  rw [exec_eq_runCommand, runCommand, hb, commandOf_instr]
  rfl

theorem needsInit_eq_false_iff {i : Instr} : needsInit i = false ↔ i.opcode = 0x01 := by
  simp [needsInit]

/-- Unless `preInit` refuses commands before `INIT`, the command is latched (R105, R320; log 10). -/
theorem accept_next {i : Instr} {s : State}
    (h : i.opcode = 0x01 ∨ s.initDone = true ∨ s.preInit = .run) : accept i s = .next (latch i s) := by
  refine if_neg fun ⟨hneeds, hinit, hrefuse⟩ => ?_
  rcases h with hop | hdone | hrun
  · rw [needsInit_eq_false_iff.mpr hop] at hneeds
    cases hneeds
  · rw [hdone] at hinit
    cases hinit
  · rw [hrun] at hrefuse
    cases hrefuse

theorem popPort_cons {s : State} {wp : CmdWord × Payload} {rest : List (CmdWord × Payload)}
    (hp : s.port = wp :: rest) : popPort s = { s with port := rest } := by
  rw [popPort, hp, List.tail_cons]

/-- The decoded command latches the fields of its word and records the word itself (R30, R62). -/
theorem latch_decoded {w : CmdWord} {p : Payload} {i : Instr} (h : decode w p = .ok i) (s : State) :
    latch i s =
      { s with
        seq := { busy := true, cmd := opField w, a := aField w, b := bField w, p := p, upc := 0 }
        trace := s.trace ++ [.accept w p] } := by
  obtain ⟨hop, ha, hb, hp⟩ := decode_fields h
  rw [latch, encode_of_decode h, hop, ha, hb, hp]
  rfl

/-- Settles O7: the latched or the presented word is the one that is fetched. -/
theorem stepRunsDecodedCommand : Obligations.StepRunsDecodedCommand := by
  refine ⟨fun s i hb hd => step_busy hb (toOption_eq_some.mpr hd), fun s w p rest i hb hp hd => ?_⟩
  rw [step_idle hb hp hd, popPort_cons (s := lowerDone s) hp]
  rfl

/-! ## The other moves -/

/-- Idle with nothing presented, a step lowers `done` (R105; log 6). -/
theorem step_nothing {s : State} (hb : s.seq.busy = false) (hp : s.port = []) :
    step s = .next (lowerDone s) := by
  have hf : fetch (lowerDone s) = .nothing := by simp [fetch, hb, hp]
  simp only [step, hf]

@[simp] theorem perform_done (act : Action) (s : State) : (perform act s).done = s.done := by
  cases act with
  | tx v record => exact transmit_done v record s
  | poll => exact poll_done s
  | delay n => exact delay_done n s

@[simp] theorem perform_port (act : Action) (s : State) : (perform act s).port = s.port := by
  cases act with
  | tx v record => exact transmit_port v record s
  | poll => exact poll_port s
  | delay n => exact delay_port n s

/-- A micro-operation leaves the port, `done` and all of the sequencer but `upc` as they are (R141b). -/
theorem runMicroOp_portFrame {i : Instr} {k : Nat} {m : MicroOp}
    (hm : (commandOf i).program[k]? = some m) (s : State) :
    (runMicroOp m s).port = s.port ∧ (runMicroOp m s).done = s.done ∧
      ∃ upc, (runMicroOp m s).seq = { s.seq with upc := upc } := by
  rw [runMicroOp_eq_perform, perform_port, perform_done, perform_seq,
    commandOf_program_writesRegistersOnly i m (List.mem_of_getElem? hm) s]
  refine ⟨rfl, rfl, ?_⟩
  split
  · exact ⟨_, rfl⟩
  · exact ⟨_, rfl⟩

/-- While busy the port waits and the latches stand: a step writes no more of the sequencer than `busy`
and `upc` (R105, R30). -/
theorem step_busy_portFrame {s t : State} (hb : s.seq.busy = true) (h : step s = .next t) :
    t.port = s.port ∧ ∃ busy upc, t.seq = { s.seq with busy := busy, upc := upc } := by
  rcases step_cases h with ⟨hf, -⟩ | ⟨w, p, rest, i, hf, -⟩ | ⟨i, m, -, -, hm, rfl⟩ |
    ⟨i, -, -, -, rfl⟩
  · simp [hb] at hf
  · simp [hb] at hf
  · obtain ⟨hport, -, upc, hseq⟩ := runMicroOp_portFrame hm (lowerDone s)
    exact ⟨hport, _, upc, hseq⟩
  · rw [complete_commandOf]
    exact ⟨rfl, _, _, rfl⟩

theorem cmdReady_eq_true_iff {s : State} : s.cmdReady = true ↔ s.seq.busy = false := by
  simp [State.cmdReady]

theorem cmdReady_eq_false_iff {s : State} : s.cmdReady = false ↔ s.seq.busy = true := by
  simp [State.cmdReady]

/-- Settles O8: ready, a presented command is latched and nothing presented is no move; not ready, the
step is a micro-operation or a completion. -/
theorem commandPortHandshake : Obligations.CommandPortHandshake := by
  refine ⟨fun _ => rfl, fun s w p rest i hr hp hd hpre => ?accepted,
    fun s hr hp => step_nothing (cmdReady_eq_true_iff.mp hr) hp, fun s t hr h => ?waiting⟩
  case accepted =>
    have hb := cmdReady_eq_true_iff.mp hr
    rw [step_idle hb hp hd, exec_idle (s := popPort (lowerDone s)) hb,
      accept_next (s := popPort (lowerDone s)) hpre, latch_decoded hd,
      popPort_cons (s := lowerDone s) hp]
    rfl
  case waiting =>
    obtain ⟨hport, busy, upc, hseq⟩ := step_busy_portFrame (cmdReady_eq_false_iff.mp hr) h
    rw [hseq]
    exact ⟨hport, rfl, rfl, rfl, rfl⟩

/-! ## Completion -/

/-- The status a command completes with: that of the recorded failure for `INIT`, `OK` for every other
(R283, R284). -/
theorem commandOf_status (i : Instr) (s : State) :
    (commandOf i).status s = if i.opcode = 0x01 then initStatus s else .ok := by
  cases i <;> rfl

/-- Settles O46: of the four things a step can be only a completion raises `done`, and only it clears
`busy`. -/
theorem onlyInitReportsFailure : Obligations.OnlyInitReportsFailure := by
  intro s t h
  rcases step_cases h with ⟨hb, -, rfl⟩ | ⟨w, p, rest, i, hb, -, -, rfl⟩ | ⟨i, m, hb, -, hm, rfl⟩ |
    ⟨i, hb, hi, -, rfl⟩
  · simp [hb]
  · simp [hb]
  · obtain ⟨-, hdone, upc, hseq⟩ := runMicroOp_portFrame hm (lowerDone s)
    simp [hdone, hseq, hb]
  · rw [complete_commandOf]
    refine ⟨iff_of_true rfl ⟨hb, rfl⟩, fun _ => ⟨i, ⟨hb, hi⟩, rfl, fun hop => ?_, fun hop => ?_⟩⟩
    · exact (commandOf_status i _).trans (if_pos hop)
    · exact (commandOf_status i _).trans (if_neg hop)

end Sys2Proof.Machine
end

section
/-! PROOFS. The transport (40_transport.md): the expander byte and the frame of a byte (R130, R137), each
micro-operation as one update of the state (R131, R135, R136), and the two moves of the micro-sequencer
that run none (R141): the acceptance, and none at all past the end of the program (log 15). -/

namespace Sys2Proof.Machine

/-! ## The expander byte (R90, R130) -/

/-- The layout of R130 in its two written forms: the concatenation, and the shifted fields combined by `|||`. -/
theorem compose_eq_shifts (data : Nibble) (en rs bl : Bit) :
    compose data en rs bl =
      (data.setWidth 8 <<< 4) ||| (bl.setWidth 8 <<< 3) ||| (en.setWidth 8 <<< 2) |||
        rs.setWidth 8 := by
  revert data en rs bl; decide

theorem getLsbD_compose_rw (data : Nibble) (en rs bl : Bit) :
    (compose data en rs bl).getLsbD 1 = false := by
  simp only [compose, BitVec.getLsbD_append]
  simp

theorem getLsbD_compose_en (data : Nibble) (en rs bl : Bit) :
    (compose data en rs bl).getLsbD 2 = en.getLsbD 0 := by
  simp only [compose, BitVec.getLsbD_append]
  simp

/-- The mask 0xFB lowers the enable bit and no other (R137). -/
theorem compose_and_enMask (data : Nibble) (en rs bl : Bit) :
    compose data en rs bl &&& 0xFB = compose data 0 rs bl := by
  revert data en rs bl; decide

/-- Settles O12: the two written forms are the same byte, and its fields read back. -/
theorem composeLaysOutTheByte : Obligations.ComposeLaysOutTheByte :=
  ⟨fun data en rs bl => ⟨compose_eq_shifts data en rs bl, expanderFields_compose data en rs bl⟩,
    by decide⟩

/-! ## The frame of a byte (R133, R137) -/

theorem extractLsb'_compose_data (data : Nibble) (en rs bl : Bit) :
    (compose data en rs bl).extractLsb' 4 4 = data :=
  congrArg ExpanderFields.data (expanderFields_compose data en rs bl)

theorem extractLsb'_compose_bl (data : Nibble) (en rs bl : Bit) :
    (compose data en rs bl).extractLsb' 3 1 = bl :=
  congrArg ExpanderFields.bl (expanderFields_compose data en rs bl)

theorem extractLsb'_compose_rs (data : Nibble) (en rs bl : Bit) :
    (compose data en rs bl).extractLsb' 0 1 = rs :=
  congrArg ExpanderFields.rs (expanderFields_compose data en rs bl)

/-- The control bits are the same in all four bytes of a frame (R137). -/
theorem controlBits_of_mem_frame {y byte : Byte} {isData bl : Bit} (h : y ∈ frame byte isData bl) :
    y.extractLsb' 0 1 = isData ∧ y.extractLsb' 3 1 = bl ∧ y.getLsbD 1 = false := by
  obtain ⟨data, en, rfl⟩ : ∃ data en, y = compose data en isData bl := by
    simp only [frame, List.mem_cons, List.not_mem_nil, or_false] at h
    rcases h with h | h | h | h <;> exact ⟨_, _, h⟩
  exact ⟨extractLsb'_compose_rs data en isData bl, extractLsb'_compose_bl data en isData bl,
    getLsbD_compose_rw data en isData bl⟩

/-- A `POLL` sends no bytes (R135). -/
theorem txLists_poll (s : State) : txLists (poll s).trace = txLists s.trace := by
  rw [poll_trace, txLists_append]
  cases readyAnswer s <;> exact List.append_nil _

/-- Settles O13: the four bytes are the two nibbles, each composed with the enable bit high, then low. -/
theorem frameIsTwoEnablePulses : Obligations.FrameIsTwoEnablePulses := by
  intro byte isData s
  refine ⟨frameOp (fun _ => byte) isData,
    compose (highNibble byte) 1 isData s.backlightValue,
    compose (highNibble byte) 0 isData s.backlightValue,
    compose (lowNibble byte) 1 isData s.backlightValue,
    compose (lowNibble byte) 0 isData s.backlightValue,
    rfl, transmit_trace _ false s, txLists_poll s,
    extractLsb'_compose_data .., extractLsb'_compose_data ..,
    extractLsb'_compose_data .., extractLsb'_compose_data ..,
    getLsbD_compose_en .., getLsbD_compose_en .., getLsbD_compose_en .., getLsbD_compose_en ..,
    fun _ hy => controlBits_of_mem_frame hy,
    (compose_and_enMask ..).symm, (compose_and_enMask ..).symm, ?recovered⟩
  case recovered => rw [extractLsb'_compose_data, extractLsb'_compose_data, nibbles_append]

/-! ## The micro-operations -/

/-- Settles O15: `TX` is one update of the state, with the last byte of the list in the image. -/
theorem transmitMicroOperation : Obligations.TransmitMicroOperation := by
  intro v y record s
  rw [transmit_eq, imageAfter_append_singleton]
  rfl

/-- Settles O16: answered true `POLL` is the query and an advance, answered false the query and a
delay. -/
theorem pollMicroOperation : Obligations.PollMicroOperation := by
  refine fun s => ⟨fun h => ?ready, fun h => ?notReady⟩
  case ready =>
    rw [poll_true h, busReady, h]
    rfl
  case notReady =>
    rw [poll_false h, busReady, h, delayService, State.emit, State.emit_trace, List.append_assoc]
    rfl

/-- Settles O17: `DELAY` is one event and an advance. -/
theorem delayMicroOperation : Obligations.DelayMicroOperation := fun _ _ => rfl

/-! ## The micro-sequencer (R141) -/

/-- Past the end of its micro-program a command has no move (log 15). -/
theorem runCommand_pastEnd {c : Command} {s : State} (hb : s.seq.busy = true)
    (hu : c.program.length < s.seq.upc.toNat) : runCommand c s = .fault .upcPastEnd := by
  simp [runCommand, hb, List.getElem?_eq_none hu.le, hu.ne']

/-- Settles O11: `programLength` is the length of the micro-program that runs. -/
theorem pastTheEndIsStuck : Obligations.PastTheEndIsStuck := by
  intro i s hw hb hu
  rw [exec_eq_runCommand]
  exact runCommand_pastEnd hb (by rwa [program_length hw])

/-- Settles O19: an idle block's move is an acceptance, which latches the command. -/
theorem idleBlockAcceptsEveryCommand : Obligations.IdleBlockAcceptsEveryCommand := by
  intro i s _ hb hpre
  rw [exec_idle hb, accept_next hpre]
  rfl

end Sys2Proof.Machine
end

section
/-! PROOFS. Runs of whole commands (40_transport.md R141): the entries of a micro-program run through one
after another, from the acceptance of the command to its completion, and what each entry does when the
services answer from scripts (20_memory.md R62; log 7). -/

namespace Sys2Proof.Machine

/-! ## Runs through a micro-program -/

/-- In `n` micro-operations the entries `ms` take `s` to `t`: an entry that does not move on, a `POLL`
answered false, runs again (R135, R141b; log 13). -/
inductive RunsThrough : List MicroOp → Nat → State → State → Prop where
  | nil (s : State) : RunsThrough [] 0 s s
  | moves {m : MicroOp} {ms : List MicroOp} {n : Nat} {s t : State}
      (hm : (m s).2.movesOn (entryUpdate m s) = true) (h : RunsThrough ms n (runMicroOp m s) t) :
      RunsThrough (m :: ms) (n + 1) s t
  | stays {m : MicroOp} {ms : List MicroOp} {n : Nat} {s t : State}
      (hm : (m s).2.movesOn (entryUpdate m s) = false)
      (h : RunsThrough (m :: ms) n (runMicroOp m s) t) : RunsThrough (m :: ms) (n + 1) s t

theorem RunsThrough.append {ms ns : List MicroOp} {n k : Nat} {s t u : State}
    (h : RunsThrough ms n s t) (hns : RunsThrough ns k t u) :
    RunsThrough (ms ++ ns) (n + k) s u := by
  induction h with
  | nil s => rwa [List.nil_append, Nat.zero_add]
  | moves hm _ ih =>
    rw [Nat.add_right_comm]
    exact .moves hm (ih hns)
  | stays hm _ ih =>
    rw [Nat.add_right_comm]
    exact .stays hm (ih hns)

/-- The block is executing the command `i`, `upc` is within its micro-program and `done` is low. -/
structure MidCommand (i : Instr) (s : State) : Prop where
  busy : s.seq.busy = true
  latched : latchedInstr s = some i
  upc : s.seq.upc.toNat ≤ (commandOf i).program.length
  done : s.done = false

/-- Amid a command a step is the next move of it: `done` is low already. -/
theorem MidCommand.step_eq {i : Instr} {s : State} (h : MidCommand i s) :
    step s = runCommand (commandOf i) s := by
  have hlow : lowerDone s = s := by rw [lowerDone, ← h.done]
  rw [step_busy h.busy h.latched, exec_eq_runCommand, hlow]

/-- The entry at `upc` leaves the block amid the command, with `upc` moved on if the entry does. -/
theorem MidCommand.runEntry {i : Instr} {s : State} {m : MicroOp} (h : MidCommand i s)
    (hm : (commandOf i).program[s.seq.upc.toNat]? = some m) :
    MidCommand i (runMicroOp m s) ∧
      (runMicroOp m s).seq.upc.toNat =
        if (m s).2.movesOn (entryUpdate m s) then s.seq.upc.toNat + 1 else s.seq.upc.toNat := by
  obtain ⟨hb, hi, -, hdone⟩ := h
  have hlt : s.seq.upc.toNat < (commandOf i).program.length := (List.getElem?_eq_some_iff.mp hm).1
  have hlen : (commandOf i).program.length ≤ 23 :=
    (program_length (latchedInstr_legal hi).2).trans_le (programLength_le i)
  obtain ⟨-, hkeep, upc, hseq⟩ := runMicroOp_portFrame hm s
  obtain ⟨hentry, -⟩ := entryUpdate_frame hm s
  have hupc : (runMicroOp m s).seq.upc.toNat =
      if (m s).2.movesOn (entryUpdate m s) then s.seq.upc.toNat + 1 else s.seq.upc.toNat := by
    have h := perform_upc (act := (m s).2) (s := entryUpdate m s) (by rw [hentry]; omega)
    rwa [← runMicroOp_eq_perform, hentry] at h
  refine ⟨⟨by rw [hseq, hb], ?latched, ?upc, hkeep.trans hdone⟩, hupc⟩
  case latched => rw [latchedInstr_congr (s := s), hi] <;> rw [hseq]
  case upc =>
    rw [hupc]
    split <;> omega

theorem run_succ_of_step {M : Host.Core} {s t : M.State} (h : M.step s = .next t) (n : Nat) :
    M.run (n + 1) s = M.run n t := by
  rw [Host.Core.run, h]

theorem runSteps_succ {s t : State} (h : step s = .next t) (n : Nat) :
    runSteps (n + 1) s = runSteps n t :=
  run_succ_of_step (M := Sys2Proof.core) h n

theorem getElem?_of_drop_eq_cons {α : Type} {l ms : List α} {m : α} {k : Nat}
    (h : l.drop k = m :: ms) : l[k]? = some m ∧ l.drop (k + 1) = ms := by
  constructor
  · rw [← List.head?_drop, h, List.head?_cons]
  · rw [← List.tail_drop, h, List.tail_cons]

/-- The rest of a command: its remaining entries are run through and it completes (R141). -/
theorem RunsThrough.runSteps_complete {i : Instr} {ms : List MicroOp} {n : Nat} {s t : State}
    (h : RunsThrough ms n s t) (hmid : MidCommand i s)
    (hms : (commandOf i).program.drop s.seq.upc.toNat = ms) :
    runSteps (n + 1) s = .next (complete (commandOf i) t) := by
  induction h with
  | nil s =>
    have hend : s.seq.upc.toNat = (commandOf i).program.length :=
      hmid.upc.antisymm (List.drop_eq_nil_iff.mp hms)
    exact runSteps_succ (hmid.step_eq.trans (runCommand_end hmid.busy hend)) 0
  | moves hm _ ih =>
    obtain ⟨hentry, hrest⟩ := getElem?_of_drop_eq_cons hms
    obtain ⟨hmid', hupc⟩ := hmid.runEntry hentry
    rw [runSteps_succ (hmid.step_eq.trans (runCommand_at hmid.busy hentry))]
    exact ih hmid' (by rwa [hupc, if_pos hm])
  | stays hm _ ih =>
    obtain ⟨hentry, -⟩ := getElem?_of_drop_eq_cons hms
    obtain ⟨hmid', hupc⟩ := hmid.runEntry hentry
    rw [runSteps_succ (hmid.step_eq.trans (runCommand_at hmid.busy hentry))]
    exact ih hmid' (by rwa [hupc, hm])

/-- A whole command from an idle block: one step to accept, one for each micro-operation run, one to
complete (R141; log 12). -/
theorem RunsThrough.runSteps_command {i : Instr} {n : Nat} {s t : State} {w : CmdWord} {p : Payload}
    {rest : List (CmdWord × Payload)}
    (h : RunsThrough (commandOf i).program n (latch i (popPort (lowerDone s))) t)
    (hb : s.seq.busy = false) (hp : s.port = (w, p) :: rest) (hd : decode w p = .ok i)
    (hpre : i.opcode = 0x01 ∨ s.initDone = true ∨ s.preInit = .run) :
    runSteps (n + 2) s = .next (complete (commandOf i) t) := by
  have haccept : step s = .next (latch i (popPort (lowerDone s))) := by
    rw [step_idle hb hp hd, exec_idle (s := popPort (lowerDone s)) hb,
      accept_next (s := popPort (lowerDone s)) hpre]
  have hmid : MidCommand i (latch i (popPort (lowerDone s))) :=
    ⟨rfl, latchedInstr_latch (decode_wellFormed hd) _, Nat.zero_le _, rfl⟩
  rw [runSteps_succ haccept, h.runSteps_complete hmid rfl]

/-! ## Scripted answers -/

/-- `s` some entries further: the image is `image` and the recorded failure `fail`, `upc` is `n` further,
the events `es` have been appended, and the scripts left are `sts` and `rs`. -/
def State.further (s : State) (image : Byte) (fail : Bool) (n : BitVec 6) (es : List Event)
    (sts : List Status) (rs : List Bool) : State :=
  { s with
    registerImage := image
    initFail := fail
    seq := { s.seq with upc := s.seq.upc + n }
    trace := s.trace ++ es
    tx := { s.tx with script := sts }
    ready := { s.ready with script := rs } }

theorem State.further_zero (s : State) :
    s.further s.registerImage s.initFail 0 [] s.tx.script s.ready.script = s := by
  simp [State.further]

theorem pollAnswers_zero : pollAnswers 0 = [true] := rfl

theorem pollAnswers_succ (k : Nat) : pollAnswers (k + 1) = false :: pollAnswers k := rfl

theorem pollEvents_succ (bus : BusHandle) (k : Nat) :
    pollEvents bus (k + 1) = [.ready bus false, .delay 1] ++ pollEvents bus k := by
  rw [pollEvents, List.replicate_succ, List.flatten_cons, List.append_assoc]
  rfl

section Scripted

variable {s : State} {image : Byte} {fail : Bool} {n : BitVec 6} {es : List Event} {st : Status}
  {sts : List Status} {rs : List Bool}

/-- `TX` with a scripted status (R131). -/
theorem transmit_further (v : List Byte) (record : Bool) :
    transmit v record (s.further image fail n es (st :: sts) rs) =
      s.further (imageAfter image v) (fail || (record && st == Status.fail)) (n + 1)
        (es ++ [.tx s.cfg.addr v busTimeout st]) sts rs := by
  rw [transmit_eq, afterTxAnswer_of_not_free rfl]
  simp only [State.further, BitVec.add_assoc, List.append_assoc]
  rfl

/-- `DELAY` (R136). -/
theorem delay_further (d : Nat) :
    delay d (s.further image fail n es sts rs) =
      s.further image fail (n + 1) (es ++ [.delay d]) sts rs := by
  simp only [delay, delayService, State.emit, State.advance, State.further, BitVec.add_assoc,
    List.append_assoc]

/-- `POLL` with a scripted answer `true` (R135). -/
theorem poll_further_true :
    poll (s.further image fail n es sts (true :: rs)) =
      s.further image fail (n + 1) (es ++ [.ready s.cfg.bus true]) sts rs := by
  rw [poll_true rfl, busReady, afterReadyAnswer_of_not_free rfl]
  simp only [State.emit, State.advance, State.further, BitVec.add_assoc, List.append_assoc]
  rfl

/-- `POLL` with a scripted answer `false` (R135). -/
theorem poll_further_false :
    poll (s.further image fail n es sts (false :: rs)) =
      s.further image fail n (es ++ [.ready s.cfg.bus false, .delay 1]) sts rs := by
  rw [poll_false rfl, busReady, afterReadyAnswer_of_not_free rfl]
  simp only [delayService, State.emit, State.further, List.append_assoc]
  rfl

theorem runsThrough_delayOp (d : Nat) :
    RunsThrough [delayOp d] 1 (s.further image fail n es sts rs)
      (s.further image fail (n + 1) (es ++ [.delay d]) sts rs) := by
  refine .moves rfl ?_
  rw [runMicroOp_delayOp, delay_further]
  exact .nil _

/-- A `POLL` answered false `k` times, then true (R135). -/
theorem runsThrough_pollOp {k : Nat} :
    RunsThrough [pollOp] (k + 1) (s.further image fail n es sts (pollAnswers k ++ rs))
      (s.further image fail (n + 1) (es ++ pollEvents s.cfg.bus k) sts rs) := by
  induction k generalizing es with
  | zero =>
    refine .moves rfl ?_
    rw [pollAnswers_zero, runMicroOp_pollOp, List.singleton_append, poll_further_true]
    exact .nil _
  | succ k ih =>
    refine .stays rfl ?_
    rw [pollAnswers_succ, runMicroOp_pollOp, List.cons_append, poll_further_false, pollEvents_succ,
      ← List.append_assoc]
    exact ih

/-- A raw byte, its status dropped (R132). -/
theorem runsThrough_writeRaw (y : Byte) :
    RunsThrough [writeRaw fun _ => y] 1 (s.further image fail n es (st :: sts) rs)
      (s.further y fail (n + 1) (es ++ [.tx s.cfg.addr [y] busTimeout st]) sts rs) := by
  refine .moves rfl ?_
  rw [runMicroOp_writeRaw, transmit_further, Bool.false_and, Bool.or_false]
  exact .nil _

/-- A raw pair whose failure is recorded (R134, R282). -/
theorem runsThrough_rawPairOp {nib : State → Nibble} {v : Nibble} {bl : Bit}
    (hv : nib (s.further image fail n es (st :: sts) rs) = v) (hbl : s.backlightValue = bl) :
    RunsThrough [rawPairOp nib true] 1 (s.further image fail n es (st :: sts) rs)
      (s.further (compose v 0 0 bl) (fail || st == Status.fail) (n + 1)
        (es ++ [.tx s.cfg.addr (rawPair v bl) busTimeout st]) sts rs) := by
  subst hv hbl
  refine .moves rfl ?_
  rw [runMicroOp_rawPairOp, transmit_further, Bool.true_and, imageAfter_rawPair]
  exact .nil _

/-- The `send` of a byte after a register update `f` (R133): `f` leads from `s` to `u`, and the byte is
composed from the registers it leaves. -/
theorem runsThrough_updThenSend {f : State → State} {byte : State → Byte} {u : State} {v : Byte}
    {bl : Bit} {k : Nat} (isData : Bit)
    (hf : f (s.further image fail n es (st :: sts) (pollAnswers k ++ rs)) =
      u.further image fail n es (st :: sts) (pollAnswers k ++ rs))
    (hv : byte (u.further image fail n es (st :: sts) (pollAnswers k ++ rs)) = v)
    (hbl : u.backlightValue = bl) :
    RunsThrough (updThenSend f byte isData) (k + 2)
      (s.further image fail n es (st :: sts) (pollAnswers k ++ rs))
      (u.further (compose (lowNibble v) 0 isData bl) fail (n + 1 + 1)
        (es ++ .tx u.cfg.addr (frame v isData bl) busTimeout st :: pollEvents u.cfg.bus k)
        sts rs) := by
  subst hbl
  refine .moves rfl ?_
  rw [runMicroOp_updThen, hf, runMicroOp_frameOp, hv, transmit_further, Bool.false_and, Bool.or_false,
    imageAfter_frame, List.append_cons es _ (pollEvents u.cfg.bus k)]
  exact runsThrough_pollOp

theorem runsThrough_send {byte : State → Byte} {v : Byte} {bl : Bit} {k : Nat} (isData : Bit)
    (hv : byte (s.further image fail n es (st :: sts) (pollAnswers k ++ rs)) = v)
    (hbl : s.backlightValue = bl) :
    RunsThrough (send byte isData) (k + 2)
      (s.further image fail n es (st :: sts) (pollAnswers k ++ rs))
      (s.further (compose (lowNibble v) 0 isData bl) fail (n + 1 + 1)
        (es ++ .tx s.cfg.addr (frame v isData bl) busTimeout st :: pollEvents s.cfg.bus k)
        sts rs) :=
  runsThrough_updThenSend (f := id) isData rfl hv hbl

/-- The micro-program of `CLEAR` and `HOME` (R191, R192). -/
theorem runsThrough_sendThenSettle {byte : State → Byte} {v : Byte} {bl : Bit} {k : Nat}
    (hv : byte (s.further image fail n es (st :: sts) (pollAnswers k ++ rs)) = v)
    (hbl : s.backlightValue = bl) :
    RunsThrough (sendThenSettle byte) (k + 3)
      (s.further image fail n es (st :: sts) (pollAnswers k ++ rs))
      (s.further (compose (lowNibble v) 0 0 bl) fail (n + 1 + 1 + 1)
        (es ++ .tx s.cfg.addr (frame v 0 bl) busTimeout st :: pollEvents s.cfg.bus k ++ [.delay 2])
        sts rs) :=
  (runsThrough_send 0 hv hbl).append (runsThrough_delayOp tSettle)

end Scripted

end Sys2Proof.Machine
end

section
/-! PROOFS. The initialization sequencer (41_init_sequencer.md): the 23 micro-operations of `INIT` one by
one (R160), the flags it derives (R162), and its run from acceptance to the terminal state (R173) with the
ten writes in their order (R174). -/

namespace Sys2Proof.Machine

/-! ## The moves -/

/-- What each entry of a command's micro-program leads to, in order, and then its completion. -/
theorem moves_program (i : Instr) (s : State) :
    Moves i s ((commandOf i).program.map (runMicroOp · s) ++ [complete (commandOf i) s]) := by
  refine moves_of_program ?length (fun k m hm => ?entry) ?completion
  case length => simp
  case entry =>
    have hlt : k < (commandOf i).program.length := (List.getElem?_eq_some_iff.mp hm).1
    rw [List.getElem?_append_left (by simpa using hlt), List.getElem?_map, hm, Option.map_some]
  case completion => simp

/-- Settles O29: each state of the list is that of the entry of `initProgram` at its place. -/
theorem initRunsItsMicroProgram : Obligations.InitRunsItsMicroProgram :=
  fun a b p s => moves_program (.init a b p) s

/-! ## The derived flags (R162) -/

/-- Settles O30: two rows or more set the line flag, and only one row lets the tall font count. -/
theorem displayFunctionIsDerived : Obligations.DisplayFunctionIsDerived := by
  intro cfg hk
  unfold deriveDisplayFunction
  rw [hk]
  refine ⟨fun hr hf => ?oneRowSmall, fun hr hf => ?oneRowTall, fun hr => ?manyRows, fun hr => ?noRow⟩
  case oneRowSmall =>
    rw [hr, hf]
    rfl
  case oneRowTall =>
    rw [hr, hf]
    rfl
  case manyRows =>
    have hlines : 1 < cfg.rows := by bv_omega
    have hfont : ¬ (cfg.font10 = true ∧ cfg.rows = 1) := fun h => by bv_omega
    rw [if_pos hlines, if_neg hfont]
    rfl
  case noRow =>
    have hfont : ¬ (cfg.font10 = true ∧ cfg.rows = 1) := fun h => by bv_omega
    rw [if_neg hfont, hr]
    rfl

/-! ## The parts of the micro-program -/

section Parts

variable {s : State} {image : Byte} {fail : Bool} {n : BitVec 6} {es : List Event} {st : Status}
  {sts : List Status} {rs : List Bool}

theorem initStep1_further :
    initStep1 (s.further image fail n es sts rs) = (initStep1 s).further 0 false n es sts rs := rfl

/-- Step 1: the registers and the first delay (R161 to R163). -/
theorem runsThrough_initStep1 (d : Nat) :
    RunsThrough [updThen initStep1 (delayOp d)] 1 (s.further image fail n es sts rs)
      ((initStep1 s).further 0 false (n + 1) (es ++ [.delay d]) sts rs) := by
  refine .moves rfl ?_
  rw [runMicroOp_updThen, runMicroOp_delayOp, initStep1_further, delay_further]
  exact .nil _

/-- A select pair and its delay, with the backlight off (R165). -/
theorem runsThrough_selectThenDelay (hdark : s.backlightValue = 0) (d : Nat) :
    RunsThrough [selectPair, delayOp d] 2 (s.further image fail n es (st :: sts) rs)
      (s.further 0x30 (fail || st == Status.fail) (n + 1 + 1)
        (es ++ [.tx s.cfg.addr [0x34, 0x30] 100 st] ++ [.delay d]) sts rs) :=
  (runsThrough_rawPairOp (nib := fun _ => nibSelect8) rfl hdark).append (runsThrough_delayOp d)

end Parts

/-- One of the four recorded transmits failed (R282). -/
def selectFailed (st : Nat → Status) : Bool :=
  st 1 == .fail || st 2 == .fail || st 3 == .fail || st 4 == .fail

theorem selectFailed_eq_decide (st : Nat → Status) :
    selectFailed st = decide (st 1 = .fail ∨ st 2 = .fail ∨ st 3 = .fail ∨ st 4 = .fail) := by
  simp only [selectFailed, beq_eq_decide, Bool.decide_or, Bool.or_assoc]

/-- Steps 1 to 6 (R160). -/
theorem runsThrough_initRawProgram {s : State} {image : Byte} {fail : Bool} {st : Nat → Status}
    {sts : List Status} {k : Nat} {rs : List Bool} :
    RunsThrough initRawProgram (11 + k)
      (s.further image fail 0 [] (st 0 :: st 1 :: st 2 :: st 3 :: st 4 :: sts) (pollAnswers k ++ rs))
      ((initStep1 s).further (compose s.cfg.nibCommit4 0 0 0) (selectFailed st) 11
        ([.delay 50, .tx s.cfg.addr [0x00] 100 (st 0), .delay 500,
          .tx s.cfg.addr [0x34, 0x30] 100 (st 1), .delay 5,
          .tx s.cfg.addr [0x34, 0x30] 100 (st 2), .delay 5,
          .tx s.cfg.addr [0x34, 0x30] 100 (st 3), .delay 1,
          .tx s.cfg.addr (rawPair s.cfg.nibCommit4 0) 100 (st 4)] ++ pollEvents s.cfg.bus k) sts rs) := by
  have hrun := (runsThrough_initStep1 (s := s) (image := image) (fail := fail) (n := 0) (es := [])
      (sts := st 0 :: st 1 :: st 2 :: st 3 :: st 4 :: sts) (rs := pollAnswers k ++ rs) tPower).append <|
    (runsThrough_writeRaw 0x00).append <| (runsThrough_delayOp tReset).append <|
    (runsThrough_selectThenDelay rfl tSel12).append <|
    (runsThrough_selectThenDelay rfl tSel12).append <|
    (runsThrough_selectThenDelay rfl tSel3).append <|
    (runsThrough_rawPairOp (s := initStep1 s) (nib := fun s => s.cfg.nibCommit4) rfl rfl).append
      runsThrough_pollOp
  have hsteps : 11 + k = 1 + (1 + (1 + (2 + (2 + (2 + (1 + (k + 1))))))) := by omega
  rw [hsteps]
  exact hrun

/-- Step 7: the five `send`s and the delays after two of them (R167 to R172). -/
theorem runsThrough_initSendProgram {s : State} {image : Byte} {fail : Bool} {n : BitVec 6}
    {es : List Event} {st : Nat → Status} {sts : List Status} {k : Nat → Nat} {rs : List Bool}
    (hdark : s.backlightValue = 0) :
    RunsThrough initSendProgram (12 + (k 1 + k 2 + k 3 + k 4 + k 5))
      (s.further image fail n es (st 5 :: st 6 :: st 7 :: st 8 :: st 9 :: sts)
        (pollAnswers (k 1) ++ (pollAnswers (k 2) ++ (pollAnswers (k 3) ++ (pollAnswers (k 4) ++
          (pollAnswers (k 5) ++ rs))))))
      ((setDisplayMode s.cfg.k.emLeft (setDisplayControl s.cfg.k.dcDisplayOn s)).further
        (compose (lowNibble s.cfg.k.returnHome) 0 0 0) fail (n + 12)
        (es ++ sendEvents s.cfg (s.cfg.k.functionSet ||| s.displayFunction) (st 5) (k 1)
          ++ sendEvents s.cfg (s.cfg.k.displayControl ||| s.cfg.k.dcDisplayOn) (st 6) (k 2)
          ++ sendEvents s.cfg s.cfg.k.clearDisplay (st 7) (k 3)
          ++ [.delay 2]
          ++ sendEvents s.cfg (s.cfg.k.entryModeSet ||| s.cfg.k.emLeft) (st 8) (k 4)
          ++ sendEvents s.cfg s.cfg.k.returnHome (st 9) (k 5)
          ++ [.delay 2]) sts rs) := by
  let c := s.cfg.k
  let shown := setDisplayControl c.dcDisplayOn s
  let ordered := setDisplayMode c.emLeft shown
  have hrun := (runsThrough_send (s := s) (image := image) (fail := fail) (n := n) (es := es)
      (st := st 5) (sts := st 6 :: st 7 :: st 8 :: st 9 :: sts) (k := k 1)
      (rs := pollAnswers (k 2) ++ (pollAnswers (k 3) ++ (pollAnswers (k 4) ++
        (pollAnswers (k 5) ++ rs))))
      (byte := fun s => s.cfg.k.functionSet ||| s.displayFunction)
      (v := c.functionSet ||| s.displayFunction) 0 rfl hdark).append <|
    (runsThrough_updThenSend (f := fun s => setDisplayControl s.cfg.k.dcDisplayOn s) (u := shown)
      (byte := displayControlInstr) (v := c.displayControl ||| c.dcDisplayOn) 0 rfl rfl hdark).append <|
    (runsThrough_sendThenSettle (s := shown) (byte := fun s => s.cfg.k.clearDisplay)
      (v := c.clearDisplay) rfl hdark).append <|
    (runsThrough_updThenSend (f := fun s => setDisplayMode s.cfg.k.emLeft s) (u := ordered)
      (byte := entryModeInstr) (v := c.entryModeSet ||| c.emLeft) 0 rfl rfl hdark).append <|
    runsThrough_sendThenSettle (s := ordered) (byte := fun s => s.cfg.k.returnHome)
      (v := c.returnHome) rfl hdark
  have hupc : n + 12 = n + 1 + 1 + 1 + 1 + 1 + 1 + 1 + 1 + 1 + 1 + 1 + 1 := by
    simp only [BitVec.add_assoc]
    rfl
  have hsteps : 12 + (k 1 + k 2 + k 3 + k 4 + k 5) =
      k 1 + 2 + (k 2 + 2 + (k 3 + 3 + (k 4 + 2 + (k 5 + 3)))) := by omega
  rw [hupc, hsteps]
  exact hrun

/-! ## The run of `INIT` -/

/-- The registers `INIT` leaves: derived flags, display on, left to right (R161, R162, R169, R171). -/
def initRegisters (s : State) : State :=
  setDisplayMode s.cfg.k.emLeft (setDisplayControl s.cfg.k.dcDisplayOn (initStep1 s))

theorem flatten_pollAnswers (k : Nat → Nat) (rs : List Bool) :
    ((List.range 6).map fun j => pollAnswers (k j)).flatten ++ rs =
      pollAnswers (k 0) ++ (pollAnswers (k 1) ++ (pollAnswers (k 2) ++ (pollAnswers (k 3) ++
        (pollAnswers (k 4) ++ (pollAnswers (k 5) ++ rs))))) := by
  simp [List.range_succ]

/-- The 23 micro-operations (R160). -/
theorem runsThrough_initProgram {s : State} {st : Nat → Status} {sts : List Status} {k : Nat → Nat}
    {rs : List Bool} (htx : s.tx.script = (List.range 10).map st ++ sts)
    (hready : s.ready.script = ((List.range 6).map fun j => pollAnswers (k j)).flatten ++ rs) :
    RunsThrough initProgram (23 + (k 0 + k 1 + k 2 + k 3 + k 4 + k 5)) s
      ((initRegisters s).further (compose (lowNibble s.cfg.k.returnHome) 0 0 0) (selectFailed st) 23
        (initEvents s.cfg st k) sts rs) := by
  have hstart := State.further_zero s
  rw [htx, hready, flatten_pollAnswers] at hstart
  have hrun : RunsThrough initProgram _
      (s.further s.registerImage s.initFail 0 [] ((List.range 10).map st ++ sts) _) _ :=
    (runsThrough_initRawProgram (st := st) (k := k 0)).append
      (runsThrough_initSendProgram (st := st) (sts := sts) (k := k) (rs := rs) rfl)
  have hsteps : 23 + (k 0 + k 1 + k 2 + k 3 + k 4 + k 5) =
      11 + k 0 + (12 + (k 1 + k 2 + k 3 + k 4 + k 5)) := by omega
  rw [hstart, ← hsteps] at hrun
  exact hrun

/-- Settles O31: the command is accepted, its micro-program is run through, and it completes. -/
theorem initRunsToItsTerminalState : Obligations.InitRunsToItsTerminalState := by
  intro s a b p rest st sts k rs hb hp htx hready
  have hd : decode (packWord 0x01 a b) p = .ok (.init a b p) := decode_latched (i := .init a b p) rfl
  have hrun : RunsThrough (commandOf (.init a b p)).program _ _ _ :=
    runsThrough_initProgram (s := latch (.init a b p) (popPort (lowerDone s))) htx hready
  have hsteps : 25 + (k 0 + k 1 + k 2 + k 3 + k 4 + k 5) =
      23 + (k 0 + k 1 + k 2 + k 3 + k 4 + k 5) + 2 := by omega
  rw [hsteps, hrun.runSteps_command hb hp hd (.inl rfl), selectFailed_eq_decide,
    popPort_cons (s := lowerDone s) hp]
  rfl

/-! ## The ten writes (R174) -/

theorem txLists_pollEvents (bus : BusHandle) (k : Nat) : txLists (pollEvents bus k) = [] := by
  induction k with
  | zero => rfl
  | succ k ih =>
    rw [pollEvents_succ, txLists_append, ih]
    rfl

theorem txLists_sendEvents (cfg : Cfg) (byte : Byte) (st : Status) (k : Nat) :
    txLists (sendEvents cfg byte st k) = [frame byte 0 0] :=
  congrArg (frame byte 0 0 :: ·) (txLists_pollEvents cfg.bus k)

/-- The lists of the ten transmits; no answer stands in them. -/
theorem txLists_initEvents (cfg : Cfg) (st : Nat → Status) (k : Nat → Nat) :
    txLists (initEvents cfg st k) =
      [[0x00], [0x34, 0x30], [0x34, 0x30], [0x34, 0x30], rawPair cfg.nibCommit4 0,
       frame (cfg.k.functionSet ||| deriveDisplayFunction cfg) 0 0,
       frame (cfg.k.displayControl ||| cfg.k.dcDisplayOn) 0 0, frame cfg.k.clearDisplay 0 0,
       frame (cfg.k.entryModeSet ||| cfg.k.emLeft) 0 0, frame cfg.k.returnHome 0 0] := by
  simp only [initEvents, txLists_append, txLists_sendEvents, txLists_pollEvents]
  rfl

/-- Settles O32: the run is the one of O31, and the default constants give the bytes. -/
theorem initWritesInFixedOrder : Obligations.InitWritesInFixedOrder := by
  intro s t a b p rest k st hb hp hk hnib htx hready hrun
  rw [initRunsToItsTerminalState s a b p rest st [] k [] hb hp (by rw [htx, List.append_nil])
    (by rw [hready, List.append_nil])] at hrun
  cases hrun
  have haccept : txLists [.accept (packWord 0x01 a b) p] = [] := rfl
  have hdone (status : Status) : txLists [.done 0x01 status] = [] := rfl
  simp only [txLists_append, txLists_initEvents, haccept, hdone, hk, hnib, List.append_nil]
  rfl

end Sys2Proof.Machine
end

section
/-! PROOFS. The display commands (42_display_commands.md): the moves of the commands that are one `send`
(R190 to R205), the idempotence of the set and clear commands (R206), and the run of `WRITE_BYTE` from
acceptance to completion (R190, R141). -/

namespace Sys2Proof.Machine

/-! ## The moves -/

/-- The moves of a command that is one `send` after a register update `f` (R133, R141, D29). -/
theorem moves_updThenSend {i : Instr} {f : State → State} {byte : State → Byte} {isData : Bit}
    (hc : commandOf i = okCommand i (updThenSend f byte isData)) (s : State) :
    Moves i s (sendMoves (byte (f s)) isData (f s) s ++ [completed i.opcode .ok s]) := by
  have h := moves_program i s
  rwa [hc] at h

/-- The moves of a command that is one `send` and the settle delay (R191, R192). -/
theorem moves_sendThenSettle {i : Instr} {byte : State → Byte}
    (hc : commandOf i = okCommand i (sendThenSettle byte)) (s : State) :
    Moves i s (sendMoves (byte s) 0 s s ++ [delay tSettle s, completed i.opcode .ok s]) := by
  have h := moves_program i s
  rwa [hc] at h

/-- Settles O20: one `send` of the operand as data. -/
theorem writeByteSendsItsByte : Obligations.WriteByteSendsItsByte :=
  fun byte b p s => moves_updThenSend (i := .writeByte byte b p) (f := id) rfl s

/-- Settles O21: one `send` and the settle delay each. -/
theorem clearAndHomeSendAndSettle : Obligations.ClearAndHomeSendAndSettle :=
  fun a b p s => ⟨moves_sendThenSettle (i := .clear a b p) rfl s,
    moves_sendThenSettle (i := .home a b p) rfl s⟩

/-- Settles O22: one `send` each, after the update of `display_control`. -/
theorem displayControlCommandsSendTheRegister : Obligations.DisplayControlCommandsSendTheRegister :=
  fun a b p s =>
    ⟨moves_updThenSend (i := .displayOn a b p) rfl s, moves_updThenSend (i := .displayOff a b p) rfl s,
      moves_updThenSend (i := .cursorOn a b p) rfl s, moves_updThenSend (i := .cursorOff a b p) rfl s,
      moves_updThenSend (i := .blinkOn a b p) rfl s, moves_updThenSend (i := .blinkOff a b p) rfl s⟩

/-- Settles O23: one `send` each, with no register update. -/
theorem scrollCommandsSendAConstant : Obligations.ScrollCommandsSendAConstant :=
  fun a b p s => ⟨moves_updThenSend (i := .scrollLeft a b p) (f := id) rfl s,
    moves_updThenSend (i := .scrollRight a b p) (f := id) rfl s⟩

/-- Settles O24: one `send` each, after the update of `display_mode`. -/
theorem entryModeCommandsSendTheRegister : Obligations.EntryModeCommandsSendTheRegister :=
  fun a b p s =>
    ⟨moves_updThenSend (i := .leftToRight a b p) rfl s,
      moves_updThenSend (i := .rightToLeft a b p) rfl s,
      moves_updThenSend (i := .autoscrollOn a b p) rfl s,
      moves_updThenSend (i := .autoscrollOff a b p) rfl s⟩

/-! ## Idempotence of the set and clear commands (R206) -/

@[simp] theorem setFlag_setFlag (field mask : Byte) :
    setFlag (setFlag field mask) mask = setFlag field mask := by
  rw [setFlag, setFlag, BitVec.or_assoc, BitVec.or_self]

@[simp] theorem clearFlag_clearFlag (field mask : Byte) :
    clearFlag (clearFlag field mask) mask = clearFlag field mask := by
  rw [clearFlag, clearFlag, BitVec.and_assoc, BitVec.and_self]

/-- Made again where the mode registers and the straps are as it left them, the update `f` leaves the
mode registers as they are. -/
def IdempotentOnModes (f : State → State) : Prop :=
  ∀ s t, t.cfg = (f s).cfg → t.displayControl = (f s).displayControl →
    t.displayMode = (f s).displayMode →
    (f t).displayControl = t.displayControl ∧ (f t).displayMode = t.displayMode

theorem idempotentOnModes_setDisplayControl {v : State → Byte}
    (hv : ∀ s t, t.cfg = s.cfg → t.displayControl = v s → v t = v s) :
    IdempotentOnModes fun s => setDisplayControl (v s) s :=
  fun s t hcfg hcontrol _ => ⟨(hv s t hcfg hcontrol).trans hcontrol.symm, rfl⟩

theorem idempotentOnModes_setDisplayMode {v : State → Byte}
    (hv : ∀ s t, t.cfg = s.cfg → t.displayMode = v s → v t = v s) :
    IdempotentOnModes fun s => setDisplayMode (v s) s :=
  fun s t hcfg _ hmode => ⟨rfl, (hv s t hcfg hmode).trans hmode.symm⟩

/-- The set and clear commands are one `send` after an idempotent update (R193 to R199, R202 to R205). -/
theorem flagCommand_program {i : Instr}
    (hi : (0x06 ≤ i.opcode ∧ i.opcode ≤ 0x0B) ∨ (0x0E ≤ i.opcode ∧ i.opcode ≤ 0x11)) :
    ∃ f byte, (commandOf i).program = updThenSend f byte 0 ∧ IdempotentOnModes f := by
  cases i with
  | displayOn | cursorOn | blinkOn =>
    exact ⟨_, _, rfl, idempotentOnModes_setDisplayControl fun s t hcfg hcontrol => by
      rw [hcfg, hcontrol, setFlag_setFlag]⟩
  | displayOff | cursorOff | blinkOff =>
    exact ⟨_, _, rfl, idempotentOnModes_setDisplayControl fun s t hcfg hcontrol => by
      rw [hcfg, hcontrol, clearFlag_clearFlag]⟩
  | leftToRight | autoscrollOn =>
    exact ⟨_, _, rfl, idempotentOnModes_setDisplayMode fun s t hcfg hmode => by
      rw [hcfg, hmode, setFlag_setFlag]⟩
  | rightToLeft | autoscrollOff =>
    exact ⟨_, _, rfl, idempotentOnModes_setDisplayMode fun s t hcfg hmode => by
      rw [hcfg, hmode, clearFlag_clearFlag]⟩
  | init | writeByte | clear | home | setCursor | scrollLeft | scrollRight | createChar | backlightOn
  | backlightOff => simp [Instr.opcode] at hi

/-- The first entry of a command's micro-program runs at `upc` 0 (R141b). -/
theorem exec_firstEntry {i : Instr} {m : MicroOp} {s t : State} (hb : s.seq.busy = true)
    (hu : s.seq.upc = 0) (hm : (commandOf i).program[0]? = some m) (h : exec i s = .next t) :
    t = runMicroOp m s := by
  rw [exec_eq_runCommand, runCommand_at hb (by rwa [hu])] at h
  cases h
  rfl

/-- Settles O47: the transmit writes no mode register, so the second update finds them as the first left
them; and the second move sends one frame. -/
theorem flagCommandsAreIdempotent : Obligations.FlagCommandsAreIdempotent := by
  intro i s t u hi hb hu ht hagain
  obtain ⟨f, byte, hprog, hf⟩ := flagCommand_program hi
  have hm : (commandOf i).program[0]? = some (updThen f (frameOp byte 0)) := by
    rw [hprog]
    rfl
  obtain rfl := exec_firstEntry hb hu hm ht
  generalize ht' : { runMicroOp (updThen f (frameOp byte 0)) s with seq := s.seq } = t' at hagain
  obtain ⟨hcontrol, hmode⟩ := hf s t' (by simp [← ht']) (by simp [← ht']) (by simp [← ht'])
  obtain rfl := exec_firstEntry (by rw [← ht', hb]) (by rw [← ht', hu]) hm hagain
  refine ⟨?control, ?mode, frame (byte (f t')) 0 (f t').backlightValue, rfl, ?sent⟩
  case control => simpa [← ht'] using hcontrol
  case mode => simpa [← ht'] using hmode
  case sent =>
    rw [runMicroOp_trace hm, txLists_append, ← ht']
    rfl

/-! ## The run of `WRITE_BYTE` -/

/-- A `send` from a state whose next answers are scripted (R133; log 7). -/
theorem runsThrough_send_scripted {s : State} {st : Status} {sts : List Status} {k : Nat}
    {rs : List Bool} (htx : s.tx.script = st :: sts) (hready : s.ready.script = pollAnswers k ++ rs)
    (v : Byte) (isData : Bit) :
    RunsThrough (send (fun _ => v) isData) (k + 2) s
      (s.further (compose (lowNibble v) 0 isData s.backlightValue) s.initFail 2
        (.tx s.cfg.addr (frame v isData s.backlightValue) busTimeout st :: pollEvents s.cfg.bus k)
        sts rs) := by
  have hstart := State.further_zero s
  rw [htx, hready] at hstart
  have hrun := runsThrough_send (s := s) (image := s.registerImage) (fail := s.initFail) (n := 0)
    (es := []) (st := st) (sts := sts) (rs := rs) (k := k) (byte := fun _ => v) isData rfl rfl
  rwa [hstart] at hrun

/-- Settles O33: the command is accepted, its `send` is run through, and it completes. -/
theorem writeByteRunsToCompletion : Obligations.WriteByteRunsToCompletion := by
  intro s byte b p rest st sts k rs hb hpre hp htx hready
  have hd : decode (packWord 0x02 byte b) p = .ok (.writeByte byte b p) :=
    decode_latched (i := .writeByte byte b p) rfl
  have hrun : RunsThrough (commandOf (.writeByte byte b p)).program _ _ _ :=
    runsThrough_send_scripted (s := latch (.writeByte byte b p) (popPort (lowerDone s))) htx hready byte 1
  have htrace : s.trace ++ [.accept (packWord 0x02 byte b) p] ++
      .tx s.cfg.addr (frame byte 1 s.backlightValue) 100 st :: pollEvents s.cfg.bus k =
      s.trace ++ [.accept (packWord 0x02 byte b) p,
        .tx s.cfg.addr (frame byte 1 s.backlightValue) 100 st] ++ pollEvents s.cfg.bus k := by
    simp
  have hsteps : 4 + k = k + 2 + 2 := by omega
  rw [hsteps, hrun.runSteps_command hb hp hd (.inr hpre), popPort_cons (s := lowerDone s) hp, ← htrace]
  rfl

end Sys2Proof.Machine
end

section
/-! PROOFS. The addressing commands (43_addressing_commands.md): the clamp and the row table of
`SET_CURSOR` (R230 to R232), and the moves of `SET_CURSOR` (R231) and of `CREATE_CHAR` (R234). -/

namespace Sys2Proof.Machine

/-! ## The row table (R230 to R232) -/

/-- `ROW_BASE` has four entries (R230). -/
theorem rowBaseAt_eq_none_iff {row : Byte} : rowBaseAt row = none ↔ 3 < row := by
  rw [rowBaseAt, List.getElem?_eq_none_iff]
  exact Iff.rfl

theorem clampRow_of_le {rows row : Byte} (h : row ≤ rows) : clampRow rows row = row :=
  if_neg (BitVec.not_lt.mpr h)

theorem clampRow_of_lt {rows row : Byte} (h : rows < row) : clampRow rows row = rows - 1 := if_pos h

/-- A line of the boundary table for one row, which is not clamped (R232). -/
theorem tableLine_of_le {rows i row : Byte} {off : Option Byte} (hle : i ≤ rows)
    (hoff : rowBaseAt i = off) (hrow : row = i) :
    clampRow rows row = i ∧ rowBaseAt (clampRow rows row) = off := by
  rw [hrow, clampRow_of_le hle]
  exact ⟨rfl, hoff⟩

/-- The line of the boundary table for the rows that are clamped (R232). -/
theorem tableLine_of_lt {rows i row : Byte} {off : Option Byte} (hlast : rows - 1 = i)
    (hoff : rowBaseAt i = off) (hlt : rows < row) :
    clampRow rows row = i ∧ rowBaseAt (clampRow rows row) = off := by
  rw [clampRow_of_lt hlt, hlast]
  exact ⟨rfl, hoff⟩

/-- Settles O26, line by line: a row up to `cfg.rows` is kept, one above it gives `cfg.rows - 1`. -/
theorem setCursorBoundaryTable : Obligations.SetCursorBoundaryTable := by
  intro rows row
  refine ⟨?one, ?two, ?three, ?four, ?zero, ?more⟩
  case one =>
    rintro rfl
    exact ⟨tableLine_of_le (by decide) rfl, tableLine_of_le (by decide) rfl,
      fun h => tableLine_of_lt rfl rfl (by bv_omega)⟩
  case two =>
    rintro rfl
    exact ⟨tableLine_of_le (by decide) rfl, tableLine_of_le (by decide) rfl,
      tableLine_of_le (by decide) rfl,
      fun h => tableLine_of_lt rfl rfl (by bv_omega)⟩
  case three =>
    rintro rfl
    exact ⟨tableLine_of_le (by decide) rfl, tableLine_of_le (by decide) rfl,
      tableLine_of_le (by decide) rfl, tableLine_of_le (by decide) rfl,
      fun h => tableLine_of_lt rfl rfl (by bv_omega)⟩
  case four =>
    rintro rfl
    exact ⟨tableLine_of_le (by decide) rfl, tableLine_of_le (by decide) rfl,
      tableLine_of_le (by decide) rfl, tableLine_of_le (by decide) rfl,
      tableLine_of_le (by decide) rfl,
      fun h => tableLine_of_lt rfl rfl (by bv_omega)⟩
  case zero =>
    rintro rfl
    exact ⟨tableLine_of_le (by decide) rfl,
      fun h => tableLine_of_lt rfl rfl (by bv_omega)⟩
  case more =>
    intro hrows
    have hlast : 3 < rows - 1 := by bv_omega
    exact ⟨fun hrow hle => tableLine_of_le hle (rowBaseAt_eq_none_iff.mpr hrow) rfl,
      tableLine_of_lt rfl (rowBaseAt_eq_none_iff.mpr hlast)⟩

/-! ## `SET_CURSOR` (R231) -/

theorem rowOffset_of_some {row off : Byte} {s : State}
    (h : rowBaseAt (clampRow s.cfg.rows row) = some off) : rowOffset row s = (off, s) := by
  simp only [rowOffset, h]

theorem rowOffset_of_none {row : Byte} {s : State} (h : rowBaseAt (clampRow s.cfg.rows row) = none) :
    rowOffset row s = (Config.freeRowBase s.draws, { s with draws := s.draws + 1 }) := by
  simp only [rowOffset, h]

/-- The moves of `SET_CURSOR`, once its row offset is known: the `TX` is made from the state `u` that the
look-up leaves, and everything else from `s` (R231, U2). -/
theorem moves_setCursor {col row off : Byte} {s u : State} (p : Payload)
    (h : rowOffset row s = (off, u)) :
    Moves (.setCursor col row p) s
      (sendMoves (ddramInstr s.cfg.k col off) 0 u s ++ [completed 0x05 .ok s]) := by
  have hbl : u.backlightValue = s.backlightValue := calc
    u.backlightValue = (rowOffset row s).2.backlightValue := by rw [h]
    _ = s.backlightValue := by rw [rowOffset_snd]
  have hfirst : runMicroOp (setCursorOp col row) s =
      transmit (frame (ddramInstr s.cfg.k col off) 0 u.backlightValue) false u := by
    rw [runMicroOp_setCursorOp, h, hbl]
  rw [sendMoves, ← hfirst]
  exact moves_program (.setCursor col row p) s

/-- The moves of `SET_CURSOR` where the table has an entry at the clamped row (R231). -/
theorem moves_setCursor_of_entry {col row i off : Byte} {s : State} (p : Payload)
    (hoff : rowBaseAt i = some off) (hi : clampRow s.cfg.rows row = i) :
    Moves (.setCursor col row p) s
      (sendMoves (ddramInstr s.cfg.k col off) 0 s s ++ [completed 0x05 .ok s]) :=
  moves_setCursor p (rowOffset_of_some (hi ▸ hoff))

/-- Settles O25: the four entries of the table, and past them the value drawn. -/
theorem setCursorSendsTheAddress : Obligations.SetCursorSendsTheAddress :=
  fun _ _ p _ =>
    ⟨moves_setCursor_of_entry p rfl, moves_setCursor_of_entry p rfl, moves_setCursor_of_entry p rfl,
      moves_setCursor_of_entry p rfl,
      fun hr => moves_setCursor p (rowOffset_of_none (rowBaseAt_eq_none_iff.mpr hr))⟩

/-! ## `CREATE_CHAR` (R234) -/

theorem map_runMicroOp_send (byte : State → Byte) (isData : Bit) (s : State) :
    (send byte isData).map (runMicroOp · s) = sendMoves (byte s) isData s s := rfl

/-- The data writes of a bitmap are one `send` for each row, in order. -/
theorem map_runMicroOp_bitmapProgram (bitmap : List Byte) (s : State) :
    (bitmapProgram bitmap).map (runMicroOp · s) = bitmap.flatMap fun row => sendMoves row 1 s s := by
  simp only [bitmapProgram, List.map_flatMap, map_runMicroOp_send]

/-- The moves of `CREATE_CHAR` with any bitmap: the address, the rows, the completion. -/
theorem moves_createChar (location b : Byte) (bitmap : List Byte) (s : State) :
    Moves (.createChar location b bitmap) s
      (sendMoves (cgramInstr s.cfg.k location) 0 s s ++ (bitmap.flatMap fun row => sendMoves row 1 s s) ++
        [completed 0x12 .ok s]) := by
  rw [← map_runMicroOp_bitmapProgram, ← map_runMicroOp_send (fun s => cgramInstr s.cfg.k location),
    ← List.map_append]
  exact moves_program (.createChar location b bitmap) s

/-- Settles O27: the eight rows of the bitmap, written out. -/
theorem createCharSendsTheGlyph : Obligations.CreateCharSendsTheGlyph :=
  fun location b r0 r1 r2 r3 r4 r5 r6 r7 s =>
    moves_createChar location b [r0, r1, r2, r3, r4, r5, r6, r7] s

end Sys2Proof.Machine
end

section
/-! PROOFS. The backlight (44_backlight.md): the bit written into the image (R250) and the moves of
`BACKLIGHT_ON` and `BACKLIGHT_OFF` (R250 to R252). -/

namespace Sys2Proof.Machine

/-! ## The image with its backlight bit written (R250) -/

/-- Whatever bit 3 was, it is 1 (R250). -/
theorem withBacklight_one (image : Byte) : withBacklight image 1 = image ||| 0x08 := by
  revert image; decide

/-- Bit 3 is cleared and nothing is set in its place (R250). -/
theorem withBacklight_zero (image : Byte) : withBacklight image 0 = image &&& 0xF7 :=
  BitVec.or_zero

/-! ## The moves (R250 to R252) -/

/-- The moves of a command that is `set_backlight(v)`: the raw byte is the image that the update leaves. -/
theorem moves_backlightProgram {i : Instr} {v : Bit}
    (hc : commandOf i = okCommand i (backlightProgram v)) (s : State) :
    Moves i s [transmit [withBacklight s.registerImage v] false (setBacklight v s),
      completed i.opcode .ok s] := by
  have h := moves_program i s
  rwa [hc] at h

/-- Settles O28: `set_backlight` with 1 and with 0. -/
theorem backlightCommandsSendTheImage : Obligations.BacklightCommandsSendTheImage := by
  intro a b p s
  rw [← withBacklight_one, ← withBacklight_zero]
  exact ⟨moves_backlightProgram (i := .backlightOn a b p) rfl s,
    moves_backlightProgram (i := .backlightOff a b p) rfl s⟩

end Sys2Proof.Machine
end

section
/-! PROOFS. `PRINT_STRING` (R260) and the numeral formatter (R269, R270), host-side operations. What the
formatter answers is tied to Mathlib's `Nat.digits`, and the round trip is read off there. -/

namespace Sys2Proof.Machine

/-! ## `PRINT_STRING` (R260) -/

theorem printString_of_no_terminator {s : List Byte} (hs : ∀ c ∈ s, c ≠ terminator) :
    printString s = s.map emitChar := by
  rw [printString, List.takeWhile_eq_self_iff.mpr fun c hc => bne_iff_ne.mpr (hs c hc)]

/-- The terminator and whatever follows it are not sent. -/
theorem printString_append_terminator {s : List Byte} (hs : ∀ c ∈ s, c ≠ terminator)
    (after : List Byte) : printString (s ++ terminator :: after) = s.map emitChar := by
  rw [printString, List.takeWhile_append_of_pos fun c hc => bne_iff_ne.mpr (hs c hc)]
  simp

/-- Settles O52: with and without a terminator. -/
theorem printStringSendsEachCharacter : Obligations.PrintStringSendsEachCharacter :=
  fun _ after hs => ⟨printString_of_no_terminator hs, printString_append_terminator hs after⟩

/-! ## The characters of digits (R269) -/

theorem digitValue_digitChar {d : Nat} (hd : d < 16) : digitValue (digitChar d) = d := by
  decide +revert

theorem digitChar_isDigit {d : Nat} (hd : d < 16) :
    (0x30 ≤ digitChar d ∧ digitChar d ≤ 0x39) ∨ (0x41 ≤ digitChar d ∧ digitChar d ≤ 0x46) := by
  decide +revert

/-- No digit but 0 is written `'0'`. -/
theorem digitChar_eq_zero_iff {d : Nat} (hd : d < 16) : digitChar d = 0x30 ↔ d = 0 := by
  decide +revert

/-- Reading the characters of digits below 16, most significant first, is evaluating the digits. -/
theorem parse_map_digitChar_reverse (base : Nat) {ds : List Nat} (hds : ∀ d ∈ ds, d < 16) :
    parse base (ds.reverse.map digitChar) = Nat.ofDigits base ds := by
  rw [parse, List.map_reverse, List.foldl_reverse]
  induction ds with
  | nil => rfl
  | cons d ds ih =>
    obtain ⟨hd, hds⟩ := List.forall_mem_cons.mp hds
    rw [List.map_cons, List.foldr_cons, ih hds, digitValue_digitChar hd, Nat.ofDigits_cons,
      mul_comm, add_comm]

/-! ## What the formatter answers (R269) -/

/-- The digits of a value, least significant first, with the one digit 0 for 0. -/
def numeralDigits (base value : Nat) : List Nat := if value = 0 then [0] else Nat.digits base value

/-- The characters of those digits, most significant first. -/
def numeral (base value : Nat) : List Byte := (numeralDigits base value).reverse.map digitChar

@[simp] theorem numeralDigits_zero (base : Nat) : numeralDigits base 0 = [0] := rfl

theorem numeralDigits_of_ne_zero (base : Nat) {value : Nat} (hv : value ≠ 0) :
    numeralDigits base value = Nat.digits base value := if_neg hv

/-- The digits come out whenever the buffer has room for them. -/
theorem digits_eq {base : Nat} (hb : 1 < base) (room value : Nat) :
    digits base room value =
      if (Nat.digits base value).length ≤ room then
        some ((Nat.digits base value).reverse.map digitChar)
      else none := by
  induction room, value using digits.induct base with
  | case1 room => simp [digits]
  | case2 value => simp [digits, Nat.digits_def' hb value.succ_pos]
  | case3 room value ih =>
    rw [digits, ih, Nat.digits_def' hb value.succ_pos]
    split <;> simp_all

theorem format_zero {base : Nat} (hb : base = 8 ∨ base = 10 ∨ base = 16) (fmtBuf : Nat) :
    format fmtBuf 0 base = if 1 ≤ fmtBuf then .ok [digitChar 0] else .error .bufferOverflow := by
  rw [format, if_pos hb, if_pos rfl]

/-- Formatting answers the numeral when the buffer holds it, and nothing else. -/
theorem format_eq_ok_iff {fmtBuf value base : Nat} {ds : List Byte}
    (hb : base = 8 ∨ base = 10 ∨ base = 16) :
    format fmtBuf value base = .ok ds ↔ numeral base value = ds ∧ ds.length ≤ fmtBuf := by
  by_cases hv : value = 0
  · subst hv
    rw [format_zero hb, numeral, numeralDigits_zero, List.reverse_singleton, List.map_singleton]
    split <;> grind
  · rw [format, if_pos hb, if_neg hv, digits_eq (by omega), numeral, numeralDigits_of_ne_zero base hv]
    split <;> grind

/-! ## The numeral (R270) -/

theorem lt_of_mem_numeralDigits {base value d : Nat} (hb : 1 < base)
    (hd : d ∈ numeralDigits base value) : d < base := by
  by_cases hv : value = 0
  · subst hv
    rw [List.mem_singleton.mp hd]
    omega
  · rw [numeralDigits_of_ne_zero base hv] at hd
    exact Nat.digits_lt_base hb hd

theorem ofDigits_numeralDigits (base value : Nat) :
    Nat.ofDigits base (numeralDigits base value) = value := by
  by_cases hv : value = 0
  · subst hv
    exact Nat.ofDigits_singleton
  · rw [numeralDigits_of_ne_zero base hv, Nat.ofDigits_digits]

theorem numeralDigits_ne_nil (base value : Nat) : numeralDigits base value ≠ [] := by
  by_cases hv : value = 0
  · subst hv
    exact List.cons_ne_nil 0 []
  · rw [numeralDigits_of_ne_zero base hv]
    exact Nat.digits_ne_nil_iff_ne_zero.mpr hv

/-- Parsing the numeral gives the value back. -/
theorem parse_numeral {base : Nat} (hb : 1 < base) (hb16 : base ≤ 16) (value : Nat) :
    parse base (numeral base value) = value := by
  rw [numeral, parse_map_digitChar_reverse base fun d hd => (lt_of_mem_numeralDigits hb hd).trans_le hb16,
    ofDigits_numeralDigits]

theorem numeral_ne_nil (base value : Nat) : numeral base value ≠ [] := by
  simpa [numeral] using numeralDigits_ne_nil base value

/-- A numeral consists of digits. -/
theorem isDigit_of_mem_numeral {base value : Nat} (hb : 1 < base) (hb16 : base ≤ 16) {c : Byte}
    (hc : c ∈ numeral base value) : (0x30 ≤ c ∧ c ≤ 0x39) ∨ (0x41 ≤ c ∧ c ≤ 0x46) := by
  obtain ⟨d, hd, rfl⟩ := List.mem_map.mp hc
  exact digitChar_isDigit ((lt_of_mem_numeralDigits hb (List.mem_reverse.mp hd)).trans_le hb16)

/-- The numeral of a value other than 0 has no leading zero. -/
theorem head?_numeral_ne_zero {base value : Nat} (hb : 1 < base) (hb16 : base ≤ 16) (hv : value ≠ 0) :
    (numeral base value).head? ≠ some 0x30 := by
  have hnil : Nat.digits base value ≠ [] := Nat.digits_ne_nil_iff_ne_zero.mpr hv
  have hlt := (Nat.digits_lt_base hb (List.getLast_mem hnil)).trans_le hb16
  rw [numeral, numeralDigits_of_ne_zero base hv, List.head?_map, List.head?_reverse,
    List.getLast?_eq_some_getLast hnil, Option.map_some, Ne, Option.some_inj, digitChar_eq_zero_iff hlt]
  exact Nat.getLast_digit_ne_zero base hv

/-- A value below `base ^ room` has a numeral of at most `room` characters. -/
theorem length_numeral_le {base value room : Nat} (hb : 1 < base) (hroom : 1 ≤ room)
    (hv : value < base ^ room) : (numeral base value).length ≤ room := by
  rw [numeral, List.length_map, List.length_reverse, numeralDigits]
  split
  · exact hroom
  · exact (Nat.digits_length_le_iff hb value).mpr hv

/-- Settles O53: what `format` answers is the numeral, and the numeral has each property. -/
theorem formatRoundTrips : Obligations.FormatRoundTrips := by
  intro fmtBuf value base hbase
  have hb : 1 < base := by omega
  have hb16 : base ≤ 16 := by omega
  refine ⟨fun ds hds => ?_, fun hroom hv => ?_, fun hroom => ?_⟩
  · obtain ⟨rfl, hlen⟩ := (format_eq_ok_iff hbase).mp hds
    exact ⟨parse_numeral hb hb16 value, numeral_ne_nil base value, hlen,
      fun c hc => isDigit_of_mem_numeral hb hb16 hc, head?_numeral_ne_zero hb hb16⟩
  · exact ⟨_, (format_eq_ok_iff hbase).mpr ⟨rfl, length_numeral_le hb hroom hv⟩⟩
  · exact (format_eq_ok_iff hbase).mpr ⟨rfl, hroom⟩

end Sys2Proof.Machine
end

section
/-! PROOFS. `PRINTF` (R261 to R268): what each conversion answers, and what the scan of the format does
with the answer. -/

namespace Sys2Proof.Machine

/-! ## The conversions (R262 to R267) -/

theorem emitFormatted_of_format {hp : HostParams} {value base : Nat} {ds : List Byte}
    (h : format hp.fmtBuf value base = .ok ds) :
    emitFormatted hp value base = .ok (ds.map emitChar) := by
  rw [emitFormatted, h]; rfl

theorem convertDecimal_of_nonneg {hp : HostParams} {raw : Nat} {ds : List Byte}
    (hv : 0 ≤ signedArg hp raw) (h : format hp.fmtBuf (signedArg hp raw).natAbs 10 = .ok ds) :
    convertDecimal hp raw = .ok (ds.map emitChar) := by
  rw [convertDecimal, if_neg hv.not_gt, emitFormatted_of_format h]

/-- A negative value other than the most negative one (U11) has a minus sign before its digits. -/
theorem convertDecimal_of_neg {hp : HostParams} {raw : Nat} {ds : List Byte}
    (hv : signedArg hp raw < 0) (hmin : signedArg hp raw ≠ -(2 ^ (hp.wInt - 1) : Nat))
    (h : format hp.fmtBuf (signedArg hp raw).natAbs 10 = .ok ds) :
    convertDecimal hp raw = .ok (emitChar 0x2D :: ds.map emitChar) := by
  rw [convertDecimal, if_pos hv, if_neg hmin, emitFormatted_of_format h]; rfl

theorem convertInt_char (hp : HostParams) (raw : Nat) :
    convertInt hp 0x63 raw = some (.ok [emitChar (BitVec.ofNat 8 raw)]) := rfl

theorem convertInt_decimal (hp : HostParams) (raw : Nat) :
    convertInt hp 0x64 raw = some (convertDecimal hp raw) := rfl

theorem convertInt_octal (hp : HostParams) (raw : Nat) :
    convertInt hp 0x6F raw = some (emitFormatted hp (unsignedArg hp raw) 8) := rfl

theorem convertInt_hex (hp : HostParams) (raw : Nat) :
    convertInt hp 0x78 raw = some (emitFormatted hp (unsignedArg hp raw) 16) := rfl

theorem isSpecifier_iff (spec : Byte) :
    isSpecifier spec = true ↔
      spec = 0x63 ∨ spec = 0x64 ∨ spec = 0x6F ∨ spec = 0x78 ∨ spec = 0x73 := by
  simp [isSpecifier, or_assoc]

theorem isSpecifier_of_convertInt {hp : HostParams} {spec : Byte} {raw : Nat}
    {out : Except HostRefusal (List Instr)} (h : convertInt hp spec raw = some out) :
    isSpecifier spec = true := by
  rw [isSpecifier_iff]
  by_contra hno
  simp only [not_or] at hno
  obtain ⟨hc, hd, ho, hx, -⟩ := hno
  rw [convertInt, if_neg hc, if_neg hd, if_neg ho, if_neg hx] at h
  cases h

theorem convert_int {hp : HostParams} {spec : Byte} {raw : Nat} {cs : List Instr}
    (h : convertInt hp spec raw = some (.ok cs)) (args : List Arg) :
    convert hp spec (.int raw :: args) = .ok (cs, args) := by
  simp only [convert, isSpecifier_of_convertInt h, if_true, h]; rfl

theorem convert_str (hp : HostParams) (str : List Byte) (args : List Arg) :
    convert hp 0x73 (.str str :: args) = .ok (printString str, args) := rfl

theorem convert_unknown {spec : Byte} (h : isSpecifier spec = false) (hp : HostParams)
    (args : List Arg) : convert hp spec args = .ok ([], args) := by
  simp only [convert, h]; rfl

theorem convert_no_argument {spec : Byte} (h : isSpecifier spec = true) (hp : HostParams) :
    convert hp spec [] = .error .missingArgument := by
  rw [convert, if_pos h]

/-! ## The scan (R261, R268) -/

/-- A character other than `%` is sent as it is, the last one too. -/
theorem printf_literal {c : Byte} (hc : c ≠ percent) (hp : HostParams) (fmt : List Byte)
    (args : List Arg) :
    printf hp (c :: fmt) args = (printf hp fmt args).map fun out => emitChar c :: out := by
  cases fmt with
  | nil => simp only [printf, if_neg hc]; rfl
  | cons d rest => rw [printf, if_neg hc]

/-- `%` and a specifier that is converted: its commands, then the rest with the arguments left. -/
theorem printf_conversion {hp : HostParams} {spec : Byte} {args left : List Arg} {cs : List Instr}
    (h : convert hp spec args = .ok (cs, left)) (fmt : List Byte) :
    printf hp (percent :: spec :: fmt) args = (printf hp fmt left).map fun out => cs ++ out := by
  rw [printf, if_pos rfl, h]

/-- A specifier that takes an integer consumes one argument. -/
theorem printf_int {hp : HostParams} {spec : Byte} {raw : Nat} {cs : List Instr}
    {answer : Except HostRefusal (List Instr)} (h : convertInt hp spec raw = some answer)
    (hcs : answer = .ok cs) (fmt : List Byte) (args : List Arg) :
    printf hp (percent :: spec :: fmt) (.int raw :: args) =
      (printf hp fmt args).map fun out => cs ++ out :=
  printf_conversion (convert_int (hcs ▸ h) args) fmt

/-- A conversion that is refused ends the scan. -/
theorem printf_refused {hp : HostParams} {spec : Byte} {args : List Arg} {e : HostRefusal}
    (h : convert hp spec args = .error e) (fmt : List Byte) :
    printf hp (percent :: spec :: fmt) args = .error e := by
  rw [printf, if_pos rfl, h]

/-- An unknown specifier leaves no mark: nothing is emitted and no argument consumed (R267). -/
theorem printf_unknown {spec : Byte} (h : isSpecifier spec = false) (hp : HostParams)
    (fmt : List Byte) (args : List Arg) :
    printf hp (percent :: spec :: fmt) args = printf hp fmt args := by
  rw [printf_conversion (convert_unknown h hp args)]
  exact congrFun Except.map_id (printf hp fmt args)

/-- Settles O54: each conversion's answer, put into the scan. -/
theorem printfScansTheFormat : Obligations.PrintfScansTheFormat := by
  intro hp c d fmt raw str args
  refine ⟨fun hc => printf_literal hc hp fmt args, printf_int (convertInt_char hp raw) rfl fmt args,
    printf_conversion (convert_str hp str args) fmt, ?octalOrHex, ?nonneg, ?neg, ?unknown, rfl,
    fun hd => printf_refused (convert_no_argument ((isSpecifier_iff d).mpr hd) hp) fmt⟩
  case octalOrHex =>
    rintro base ds (⟨rfl, rfl⟩ | ⟨rfl, rfl⟩) h
    · exact printf_int (convertInt_octal hp raw) (emitFormatted_of_format h) fmt args
    · exact printf_int (convertInt_hex hp raw) (emitFormatted_of_format h) fmt args
  case nonneg =>
    intro ds hv h
    exact printf_int (convertInt_decimal hp raw) (convertDecimal_of_nonneg hv h) fmt args
  case neg =>
    intro ds hv hmin h
    exact printf_int (convertInt_decimal hp raw) (convertDecimal_of_neg hv hmin h) fmt args
  case unknown =>
    intro hc hd ho hx hs
    have hunknown : isSpecifier d = false :=
      Bool.eq_false_iff.mpr (mt (isSpecifier_iff d).mp (by tauto))
    exact printf_unknown hunknown hp fmt args

end Sys2Proof.Machine
end

section
/-! PROOFS. The exceptions (60_exceptions.md): a block that never stops by itself (R286), the endless wait
for the bus and the commands that cannot wait (R285, R284), the one recorded failure (R281, R282), and the
loss of power (70_reset_and_hazards.md R300, R310). -/

namespace Sys2Proof.Machine

/-! ## No move stops the block (R286) -/

/-- Up to the end of its micro-program a command has a next move (R141). -/
theorem runCommand_progress {c : Command} {s : State} (hb : s.seq.busy = true)
    (hu : s.seq.upc.toNat ≤ c.program.length) : ∃ t, runCommand c s = .next t := by
  rcases hu.lt_or_eq with hlt | hend
  · exact ⟨_, runCommand_at hb (List.getElem?_eq_getElem hlt)⟩
  · exact ⟨_, runCommand_end hb hend⟩

/-- A busy block that meets the invariant has a next move. -/
theorem step_busy_progress {s : State} (hinv : Inv s) (hb : s.seq.busy = true) :
    ∃ t, step s = .next t := by
  obtain ⟨i, hi, hu⟩ := hinv.seqLegal hb
  rw [← program_length (latchedInstr_legal hi).2] at hu
  rw [step_busy hb hi, exec_eq_runCommand]
  exact runCommand_progress (s := lowerDone s) hb hu

/-- Acceptance latches the command, unless the strict treatment of U1 refuses it (R105, R320; log 10). -/
theorem accept_cases (i : Instr) (s : State) :
    accept i s = .next (latch i s) ∨
      (s.preInit = .refuse ∧ s.initDone = false ∧ i.opcode ≠ 0x01 ∧
        accept i s = .refused .beforeInit) := by
  by_cases h : needsInit i ∧ s.initDone = false ∧ s.preInit = .refuse
  · obtain ⟨hneeds, hinit, hrefuse⟩ := h
    exact .inr ⟨hrefuse, hinit, bne_iff_ne.mp hneeds, if_pos ⟨hneeds, hinit, hrefuse⟩⟩
  · exact .inl (if_neg h)

/-- A command on the port of an idle block is accepted, or refused before `INIT` (R105, R320). -/
theorem step_presented {s : State} {w : CmdWord} {p : Payload} {rest : List (CmdWord × Payload)}
    {i : Instr} (hb : s.seq.busy = false) (hp : s.port = (w, p) :: rest) (hd : decode w p = .ok i) :
    (∃ t, step s = .next t) ∨
      (s.preInit = .refuse ∧ s.initDone = false ∧ opField w ≠ 0x01 ∧
        step s = .refused .beforeInit) := by
  obtain ⟨hop, -⟩ := decode_fields hd
  rw [step_idle hb hp hd, exec_idle (s := popPort (lowerDone s)) hb, ← hop]
  exact (accept_cases i (popPort (lowerDone s))).imp_left fun h => ⟨_, h⟩

/-- Settles O10: a busy block moves on; an idle one finds nothing, a reserved opcode or an assigned one on
its port. -/
theorem onlyPresentedCommandsAreRefused : Obligations.OnlyPresentedCommandsAreRefused := by
  intro s hinv
  cases hb : s.seq.busy with
  | true => exact .inl (step_busy_progress hinv hb)
  | false =>
    cases hp : s.port with
    | nil => exact .inl ⟨_, step_nothing hb hp⟩
    | cons wp rest =>
      obtain ⟨w, p⟩ := wp
      by_cases hres : opField w = 0x00 ∨ 0x15 ≤ opField w
      · exact .inr ⟨rfl, w, p, rest, rfl, .inl ⟨hres, step_reserved hb hp hres⟩⟩
      · obtain ⟨i, hd⟩ := decode_assigned (w := w) (by bv_omega) (by bv_omega) p
        exact (step_presented hb hp hd).imp_right fun hrefused =>
          ⟨rfl, w, p, rest, rfl, .inr hrefused⟩

/-! ## The hang (R285) -/

/-- Where R142 and R160 name a `POLL` the micro-program has one. -/
theorem program_pollOp_of_mem_pollsAt {i : Instr} (hw : WellFormed i = true) :
    ∀ k ∈ pollsAt i, (commandOf i).program[k]? = some pollOp := by
  cases i with
  | init =>
    simp only [pollsAt, sendPolls, List.forall_mem_cons]
    exact ⟨rfl, rfl, rfl, rfl, rfl, rfl, List.forall_mem_nil _⟩
  | createChar location b bitmap =>
    obtain ⟨r0, r1, r2, r3, r4, r5, r6, r7, rfl⟩ := bitmap_rows hw
    simp only [pollsAt, sendPolls, List.forall_mem_cons]
    exact ⟨rfl, rfl, rfl, rfl, rfl, rfl, rfl, rfl, rfl, List.forall_mem_nil _⟩
  | backlightOn | backlightOff => exact List.forall_mem_nil _
  | _ => exact List.forall_mem_singleton.mpr rfl

/-- The feed of `bus_ready` answers false for ever (log 7). -/
structure NeverReady (s : State) : Prop where
  script : s.ready.script = []
  after : s.ready.after = some false

/-- One `POLL` on a bus that is never ready: the two events, and nothing else (R135). -/
theorem NeverReady.poll_eq {s : State} (h : NeverReady s) :
    poll s = { s with trace := s.trace ++ [.ready s.cfg.bus false, .delay 1] } := by
  have hanswer : readyAnswer s = false := Feed.answer_of_after h.script h.after _
  rw [(pollMicroOperation s).2 hanswer,
    afterReadyAnswer_of_not_free (Feed.isFree_of_after (Option.isSome_of_eq_some h.after)),
    Feed.rest_of_script_nil h.script]

/-- `s` after `n` steps of the wait: `done` has fallen with the first, and each has added its two events. -/
def State.afterFalsePolls (n : Nat) (s : State) : State :=
  { s with
    done := if n = 0 then s.done else false
    trace := s.trace ++ (List.replicate n [.ready s.cfg.bus false, .delay 1]).flatten }

theorem State.afterFalsePolls_zero (s : State) : s.afterFalsePolls 0 = s := by
  simp [State.afterFalsePolls]

theorem State.afterFalsePolls_succ (n : Nat) (s : State) :
    s.afterFalsePolls (n + 1) = (s.afterFalsePolls 1).afterFalsePolls n := by
  simp [State.afterFalsePolls, List.replicate_succ]

/-- One step at a `POLL` on a bus that is never ready. -/
theorem NeverReady.step_eq {i : Instr} {s : State} (h : NeverReady s) (hex : Executing i s)
    (hu : s.seq.upc.toNat ∈ pollsAt i) : step s = .next (s.afterFalsePolls 1) := by
  obtain ⟨hb, hi⟩ := hex
  have hpoll := program_pollOp_of_mem_pollsAt (latchedInstr_legal hi).2 _ hu
  have hlow : NeverReady (lowerDone s) := ⟨h.script, h.after⟩
  rw [step_busy hb hi, exec_eq_runCommand, runCommand_at (s := lowerDone s) hb hpoll,
    runMicroOp_pollOp, hlow.poll_eq]
  rfl

/-- Any number of steps there: each leaves the block where it was (R285). -/
theorem NeverReady.runSteps_eq {i : Instr} {s : State} (h : NeverReady s) (hex : Executing i s)
    (hu : s.seq.upc.toNat ∈ pollsAt i) (n : Nat) :
    runSteps n s = .next (s.afterFalsePolls n) := by
  induction n generalizing s with
  | zero => exact congrArg _ s.afterFalsePolls_zero.symm
  | succ n ih =>
    have hstays : NeverReady (s.afterFalsePolls 1) := ⟨h.script, h.after⟩
    rw [runSteps_succ (h.step_eq hex hu), ih hstays hex hu, ← State.afterFalsePolls_succ]

/-! ## The commands without a `POLL` (R284, R285) -/

theorem commandOf_backlight {i : Instr} (hi : i.opcode = 0x13 ∨ i.opcode = 0x14) :
    ∃ v, (commandOf i).program = backlightProgram v := by
  cases i with
  | backlightOn => exact ⟨1, rfl⟩
  | backlightOff => exact ⟨0, rfl⟩
  | _ => simp [Instr.opcode] at hi

/-- A transmit moves on whatever it is answered, so a backlight command ends in two steps, from whatever
`done` was (R250; logs 6, 12). -/
theorem backlight_runs {i : Instr} {s : State} (hi : i.opcode = 0x13 ∨ i.opcode = 0x14)
    (hex : Executing i s) (hu : s.seq.upc = 0) :
    ∃ t, runSteps 2 s = .next (complete (commandOf i) t) := by
  obtain ⟨hbusy, hlatched⟩ := hex
  obtain ⟨v, hprog⟩ := commandOf_backlight hi
  have hlow : runSteps 2 s = runSteps 2 (lowerDone s) := rfl
  have hmid : MidCommand i (lowerDone s) := ⟨hbusy, hlatched, by simp [hu], rfl⟩
  have hrun := RunsThrough.moves (m := updThen (setBacklight v) (writeRaw fun s => s.registerImage))
    (s := lowerDone s) rfl (.nil _)
  rw [hlow, hrun.runSteps_complete hmid (by rw [hprog, lowerDone_seq, hu]; rfl)]
  exact ⟨_, rfl⟩

/-- Settles O35: the wait on a bus that is never ready, and the run of a backlight command, which has no
wait in it. -/
theorem busNeverReadyHangs : Obligations.BusNeverReadyHangs := by
  refine ⟨fun i s n hex hu hscript hafter =>
    NeverReady.runSteps_eq ⟨hscript, hafter⟩ hex hu n, fun i s hi hex hu => ?completes⟩
  case completes =>
    obtain ⟨t, hrun⟩ := backlight_runs hi hex hu
    have hnotInit : i.opcode ≠ 0x01 := by bv_omega
    rw [complete_commandOf] at hrun
    exact ⟨_, hrun, rfl, rfl, (commandOf_status i t).trans (if_neg hnotInit)⟩

/-! ## The recorded failure (R281, R282) -/

/-- The move of a busy command at an entry of its micro-program is that entry (R141b). -/
theorem exec_entry {i : Instr} {m : MicroOp} {s t : State} (hb : s.seq.busy = true)
    (hm : (commandOf i).program[s.seq.upc.toNat]? = some m) (h : exec i s = .next t) :
    t = runMicroOp m s := by
  rw [exec_eq_runCommand, runCommand_at hb hm] at h
  cases h
  rfl

/-- The transmits whose failure is recorded: the select pairs and the commit pair (R165, R166). -/
theorem initProgram_recorded {k : Nat} (hk : k = 3 ∨ k = 5 ∨ k = 7 ∨ k = 9) :
    ∃ nib, initProgram[k]? = some (rawPairOp nib true) := by
  rcases hk with rfl | rfl | rfl | rfl <;> exact ⟨_, rfl⟩

/-- The entry leaves the recorded failure as it is. -/
def KeepsInitFail (m : MicroOp) : Prop := ∀ s, (runMicroOp m s).initFail = s.initFail

theorem keepsInitFail_delayOp (n : Nat) : KeepsInitFail (delayOp n) := delay_initFail n

theorem keepsInitFail_pollOp : KeepsInitFail pollOp := poll_initFail

theorem keepsInitFail_writeRaw (byte : State → Byte) : KeepsInitFail (writeRaw byte) :=
  fun s => by simp

/-- Of steps 1 to 6 only the clearing and the four recorded transmits write `init_fail` (R281). -/
theorem initRawProgram_keepsInitFail {k : Nat} {m : MicroOp} (hm : initRawProgram[k]? = some m)
    (hk : k ∉ [0, 3, 5, 7, 9]) : KeepsInitFail m := by
  have hlt : k < 11 := (List.getElem?_eq_some_iff.mp hm).1
  simp only [List.mem_cons, List.not_mem_nil, or_false] at hk
  have hplace : k = 1 ∨ k = 10 ∨ k = 2 ∨ k = 4 ∨ k = 6 ∨ k = 8 := by omega
  rcases hplace with rfl | rfl | hdelay
  · cases hm
    exact keepsInitFail_writeRaw _
  · cases hm
    exact keepsInitFail_pollOp
  · rcases hdelay with rfl | rfl | rfl | rfl <;>
    · cases hm
      exact keepsInitFail_delayOp _

/-- A `send` drops the status of its frame (R133). -/
theorem updThenSend_keepsInitFail {f : State → State} (hf : ∀ s, (f s).initFail = s.initFail)
    (byte : State → Byte) (isData : Bit) : ∀ m ∈ updThenSend f byte isData, KeepsInitFail m :=
  List.forall_mem_cons.mpr
    ⟨fun s => by simp [hf], List.forall_mem_singleton.mpr keepsInitFail_pollOp⟩

theorem send_keepsInitFail (byte : State → Byte) (isData : Bit) :
    ∀ m ∈ send byte isData, KeepsInitFail m :=
  updThenSend_keepsInitFail (f := id) (fun _ => rfl) byte isData

theorem sendThenSettle_keepsInitFail (byte : State → Byte) :
    ∀ m ∈ sendThenSettle byte, KeepsInitFail m :=
  List.forall_mem_append.mpr
    ⟨send_keepsInitFail byte 0, List.forall_mem_singleton.mpr (keepsInitFail_delayOp _)⟩

/-- No failure of step 7 is recorded: it is five `send`s and two delays (R167, R281). -/
theorem initSendProgram_keepsInitFail : ∀ m ∈ initSendProgram, KeepsInitFail m := by
  simp only [initSendProgram, List.forall_mem_append]
  exact ⟨⟨⟨⟨send_keepsInitFail _ _,
    updThenSend_keepsInitFail (fun s => setDisplayControl_initFail s _) _ _⟩,
    sendThenSettle_keepsInitFail _⟩,
    updThenSend_keepsInitFail (fun s => setDisplayMode_initFail s _) _ _⟩,
    sendThenSettle_keepsInitFail _⟩

theorem initProgram_keepsInitFail {k : Nat} {m : MicroOp} (hm : initProgram[k]? = some m)
    (hk : k ∉ [0, 3, 5, 7, 9]) : KeepsInitFail m := by
  by_cases hraw : k < initRawProgram.length
  · exact initRawProgram_keepsInitFail ((List.getElem?_append_left hraw).symm.trans hm) hk
  · have hsend := (List.getElem?_append_right (Nat.le_of_not_lt hraw)).symm.trans hm
    exact initSendProgram_keepsInitFail m (List.mem_of_getElem? hsend)

/-- Settles O45: the entry at `upc` is step 1, a recorded transmit, or one that keeps `init_fail`. -/
theorem initFailRecordsFourTransmits : Obligations.InitFailRecordsFourTransmits := by
  intro a b p s t hb hlt h
  refine ⟨fun hu => ?cleared, fun hu => ?recorded, fun h0 h3 h5 h7 h9 => ?kept⟩
  case cleared =>
    obtain rfl := exec_firstEntry (m := updThen initStep1 (delayOp tPower)) hb hu rfl h
    rfl
  case recorded =>
    obtain ⟨nib, hm⟩ := initProgram_recorded (k := s.seq.upc.toNat) (by bv_omega)
    obtain rfl := exec_entry (i := .init a b p) hb hm h
    simp [beq_eq_decide]
  case kept =>
    have hm : initProgram[s.seq.upc.toNat]? = some _ := List.getElem?_eq_getElem hlt
    obtain rfl := exec_entry (i := .init a b p) hb hm h
    refine initProgram_keepsInitFail hm ?_ s
    simp only [List.mem_cons, List.not_mem_nil, or_false]
    bv_omega

/-! ## Loss of power (R300) -/

/-- Settles O51: `powerCycle` is the reset state, but for the straps and the inputs. -/
theorem powerCycleLosesEverything : Obligations.PowerCycleLosesEverything := by
  refine fun s s' => ⟨⟨rfl, rfl, rfl, rfl, rfl⟩, fun hcfg hport htx hready hdraws hpre => ?_⟩
  simp only [State.powerCycle, hcfg, hport, htx, hready, hdraws, hpre]

end Sys2Proof.Machine
end


section
/-! PROOFS. Reset and hazards (70_reset_and_hazards.md): what reset leaves (R310), the strict treatment of
commands before `INIT` (R320; log 10), and the completion of every command on a bus that is always ready
(R329). -/

namespace Sys2Proof.Machine

/-! ## Reset (R310) -/

/-- Settles O50: the reset state states these values (R35). -/
theorem resetLeavesTheBlockIdle : Obligations.ResetLeavesTheBlockIdle := ⟨rfl, rfl, rfl, rfl⟩

/-! ## Commands before `INIT` (R320) -/

/-- The strict treatment refuses every command but `INIT` while `init_done = 0` (R320; log 10). -/
theorem accept_refused {i : Instr} {s : State} (hpre : s.preInit = .refuse)
    (hinit : s.initDone = false) (hop : i.opcode ≠ 0x01) : accept i s = .refused .beforeInit :=
  if_pos ⟨bne_iff_ne.mpr hop, hinit, hpre⟩

/-- Settles O9: an idle block's move is an acceptance, which the strict treatment refuses to all but
`INIT`. -/
theorem strictModelRefusesBeforeInit : Obligations.StrictModelRefusesBeforeInit := by
  intro s w p rest i hpre hinit hb hp hd
  have hstep : step s = accept i (popPort (lowerDone s)) := by
    rw [step_idle hb hp hd, exec_idle (s := popPort (lowerDone s)) hb]
  refine ⟨fun hop => ?refused, fun hop => ?accepted⟩
  case refused => rw [hstep, accept_refused (s := popPort (lowerDone s)) hpre hinit hop]
  case accepted => exact ⟨_, hstep.trans (accept_next (.inl hop)), rfl⟩

/-! ## A bus that is always ready (R329) -/

/-- The feed of `bus_ready` answers true for ever (log 7). -/
structure AlwaysReady (s : State) : Prop where
  script : s.ready.script = []
  after : s.ready.after = some true

theorem AlwaysReady.congr {s t : State} (h : AlwaysReady s) (ht : t.ready = s.ready) :
    AlwaysReady t :=
  ⟨by rw [ht]; exact h.script, by rw [ht]; exact h.after⟩

theorem AlwaysReady.readyAnswer_eq {s : State} (h : AlwaysReady s) : readyAnswer s = true :=
  Feed.answer_of_after h.script h.after _

/-- No action waits: the only one that could is a `POLL` (R135). -/
theorem AlwaysReady.movesOn {s : State} (h : AlwaysReady s) (act : Action) :
    act.movesOn s = true := by
  cases act with
  | poll => exact h.readyAnswer_eq
  | tx | delay => rfl

/-- An action takes at most one answer, and the feed has no script to use up. -/
theorem AlwaysReady.perform {s : State} (h : AlwaysReady s) (act : Action) :
    AlwaysReady (perform act s) := by
  cases act with
  | tx v record => exact h.congr (transmit_ready v record s)
  | poll => exact h.congr ((poll_ready s).trans (Feed.rest_of_script_nil h.script))
  | delay n => exact h.congr (delay_ready n s)

/-- Entries that write runtime registers only run through in one micro-operation each, whatever the
transmits answer, and leave the port as it is (R135, R141b). -/
theorem AlwaysReady.runsThrough {ms : List MicroOp} (hms : EntriesWriteRegistersOnly ms) {s : State}
    (h : AlwaysReady s) : ∃ t, RunsThrough ms ms.length s t ∧ t.port = s.port := by
  induction ms generalizing s with
  | nil => exact ⟨s, .nil s, rfl⟩
  | cons m ms ih =>
    obtain ⟨hm, hrest⟩ := entriesWriteRegistersOnly_cons.mp hms
    have hready : (entryUpdate m s).ready = s.ready := (congrArg State.ready (hm s)).trans rfl
    have hport : (entryUpdate m s).port = s.port := (congrArg State.port (hm s)).trans rfl
    have hupd : AlwaysReady (entryUpdate m s) := h.congr hready
    obtain ⟨t, hrun, ht⟩ := ih hrest (hupd.perform (m s).2)
    exact ⟨t, .moves (hupd.movesOn _) hrun, ht.trans ((perform_port _ _).trans hport)⟩

/-- Settles O34: accepted, the command runs through its entries without a wait and completes. -/
theorem commandsCompleteWhenBusReady : Obligations.CommandsCompleteWhenBusReady := by
  intro i s rest hw hb hp hpre hscript hafter
  have hready : AlwaysReady (latch i (popPort (lowerDone s))) := ⟨hscript, hafter⟩
  obtain ⟨t, hrun, hport⟩ := hready.runsThrough (commandOf_program_writesRegistersOnly i)
  have hcommand := hrun.runSteps_command hb hp (encodedCommandDecodesToItself i hw) hpre
  rw [program_length hw, complete_commandOf] at hcommand
  have hrest : t.port = rest := by
    rw [hport, latch_port, popPort_port, lowerDone_port, hp, List.tail_cons]
  exact ⟨_, hcommand, rfl, rfl, hrest, List.getLast?_concat⟩

end Sys2Proof.Machine
end
